-- ==== Sys2Proof/Word.lean ====
section
/-! DEFINITION. The word types: bytes and fields of frames, and the 32-bit uptime that wraps. -/

namespace Sys2Proof

/-- One byte of a frame (R171, R182). -/
abbrev Byte := BitVec 8

/-- A two-byte field: terminal address, fault id, label, optical power (R182). -/
abbrev Word16 := BitVec 16

/-- A four-byte field (R182). -/
abbrev Word32 := BitVec 32

/-- Uptime in units of 10 ms, 32 bits, modulo 2^32 (00 Conventions, Time). -/
abbrev Uptime := BitVec 32

end Sys2Proof
end

