-- ==== Sys2Proof/Config.lean ====
section
/-! DEFINITION. What one part fixes and the manual leaves open. -/

namespace Sys2Proof

/-- The firmware edition less one. R180 gives only its range, 1..255; assumption 13. -/
opaque Config.editionIndex : Fin 255

/-- The firmware edition that IDENTIFY reports, 1..255 (R180). -/
def Config.firmwareEdition : Nat := Config.editionIndex.val + 1

end Sys2Proof
end

