-- ==== Sys2Proof/Syntax.lean ====
section
/-! DEFINITION. The commands of the part: one constructor of `Instr` per row of spec/opcode_table.json. -/

namespace Sys2Proof

/-- The three kinds of port event that an FMU records, and the gasp of its own supply (R28). -/
inductive EventKind where
  | gasp | dark | light | unitGasp
  deriving DecidableEq, Repr

/-- A character on the riser pair between its start bit and the quiet after it: its eight data bits, its
parity bit, and whether its stop bit is present (R24). -/
structure RxChar where
  data   : Byte
  parity : Bool
  stop   : Bool
  deriving DecidableEq, Repr

/-- The present readings of the two taps of an FMU (R29, R30). -/
structure TapReadings where
  fmu  : BitVec 6
  tapA : Word16
  tapB : Word16
  deriving DecidableEq, Repr

/-- An FMU, by its number (assumption 5), and the floor to which it is strapped (R26). -/
structure Strap where
  fmu   : BitVec 6
  floor : BitVec 6
  deriving DecidableEq, Repr

/-- What the world adds when a command frame goes out on the riser: the FMUs that hear its address byte in error,
those that hear a later character in error or a CRC-8 that does not match (R25), and the present tap readings of the
FMUs that have them (R29, R30); FMUs by number (assumption 5). -/
structure Hearing where
  addressBadAt : List (BitVec 6)
  damagedAt    : List (BitVec 6)
  taps         : List TapReadings
  deriving DecidableEq, Repr

/-- A request as its frame carries it (R182), fields in catalogue order. -/
inductive Request where
  | identify
  | terminalWrite (addr : Word16) (dom offClass : Byte) (notify : Bool) (label : Word16) (masked watch : Bool)
  | terminalRemove (addr : Word16)
  | terminalRead (addr : Word16)
  | learnedList (start : Byte)
  | domainWrite (id level : Byte) (parent channel : Option Byte) (tap : Option (Byte × Byte))
  | domainRemove (id : Byte)
  | domainRead (id : Byte)
  | floorUnitWrite (floor : Byte)
  | floorUnitRemove (floor : Byte)
  | floorUnitRead (floor : Byte)
  | settingsWrite (entries : List (Byte × Word32))
  | settingsRead
  | matchTerminals (first last care pattern : Byte) (states : Option Word16) (mode : Byte)
  | bulkUpdate (source attrs op values first last : Byte) (bitmap : List Byte)
  | faultList (start : Byte)
  | faultRead (id : Word16)
  | faultAck (id : Word16)
  | faultClear (id : Word16)
  | decideNow (id : Byte)
  | powerRead (type sel : Byte)
  | countersRead (sel : Byte)
  | noticeMaskWrite (floors : BitVec 64) (classes : BitVec 4)
  | resync (type which : Byte)
  | configSave
  | softRestart
  /-- A good frame whose kind byte is not a request kind (R174 check 2). -/
  | unknownKind (kind : Byte) (fields : List Byte)
  /-- A request kind whose body length does not agree with it (R174 check 3). -/
  | badLength (kind : Byte)
  /-- A request kind of the right length with a flag, presence or class-enable byte outside its values
  (assumption 9). -/
  | badChoice (kind : Byte)
  deriving DecidableEq, Repr

/-- The commands. The first 26 are the requests of the catalogue (R174), each with the tag of its frame. -/
inductive Instr where
  | identify (tag : Byte)
  | terminalWrite (tag : Byte) (addr : Word16) (dom offClass : Byte) (notify : Bool) (label : Word16)
      (masked watch : Bool)
  | terminalRemove (tag : Byte) (addr : Word16)
  | terminalRead (tag : Byte) (addr : Word16)
  | learnedList (tag start : Byte)
  | domainWrite (tag id level : Byte) (parent channel : Option Byte) (tap : Option (Byte × Byte))
  | domainRemove (tag id : Byte)
  | domainRead (tag id : Byte)
  | floorUnitWrite (tag floor : Byte)
  | floorUnitRemove (tag floor : Byte)
  | floorUnitRead (tag floor : Byte)
  | settingsWrite (tag : Byte) (entries : List (Byte × Word32))
  | settingsRead (tag : Byte)
  | matchTerminals (tag first last care pattern : Byte) (states : Option Word16) (mode : Byte)
  | bulkUpdate (tag source attrs op values first last : Byte) (bitmap : List Byte)
  | faultList (tag start : Byte)
  | faultRead (tag : Byte) (id : Word16)
  | faultAck (tag : Byte) (id : Word16)
  | faultClear (tag : Byte) (id : Word16)
  | decideNow (tag id : Byte)
  | powerRead (tag type sel : Byte)
  | countersRead (tag sel : Byte)
  | noticeMaskWrite (tag : Byte) (floors : BitVec 64) (classes : BitVec 4)
  | resync (tag type which : Byte)
  | configSave (tag : Byte)
  | softRestart (tag : Byte)
  /-- A good frame of a kind outside 0x01..0x1A, with its tag and fields (R174). -/
  | unknownKindRequest (kind tag : Byte) (fields : List Byte)
  /-- The bytes of a frame after its sync byte: length, body, CRC-16 (R172). -/
  | hostFrameReceived (bytes : List Byte)
  | hostFrameGapTimeout
  | frameBoundary
  | configSaveComplete
  /-- `pfail`: the supply-fail input signals failure when the start is complete (R188). -/
  | softRestartPerformed (pfail : Bool)
  /-- The strap pins as read (true: high) and the supply-fail input when the start is complete (R187). -/
  | powerOnReset (strap1 strap0 pfail : Bool)
  | pinReset (strap1 strap0 pfail : Bool)
  | supplyFail
  | attentionAsserted
  | poll (h : Hearing)
  | status (h : Hearing)
  | clear (h : Hearing)
  | riserBusy (h : Hearing)
  | replyWindowExpiry
  /-- The characters of the reply frame that has ended (R33). -/
  | riserReplyReceived (chars : List RxChar)
  | replyAbandoned
  | clearTransactionEnd
  | gapTimerExpiry
  | stepTimerExpiry
  /-- The converter's codes on channels 0..3 (R66). -/
  | feederSample (c0 c1 c2 c3 : BitVec 12)
  | gaspHoldExpiry (addr : BitVec 10)
  | holdDownExpiry (addr : BitVec 10)
  | agingTick
  | windowTimerExpiry (id : BitVec 6)
  | clearingTimerExpiry (id : Word16)
  | reminderTimerExpiry (id : Word16)
  /-- `stopOk`: the byte's stop bit is present (R172). -/
  | hostByteReceived (byte : Byte) (stopOk : Bool)
  | riserCharacterReceived
  /-- `fmu`: which FMU it is, by its number on the riser (assumption 5). -/
  | fmuEventRecorded (fmu : BitVec 6) (kind : EventKind) (port : BitVec 4)
  /-- `strap`: which FMU it is, and its floor; `lit`: bit p is set when port p has light at the start (R32). -/
  | fmuStart (strap : Strap) (lit : BitVec 16)
  deriving DecidableEq, Repr

end Sys2Proof
end

