-- ==== Sys2Proof/Machine/Crc.lean ====
section
/-! DEFINITION. The three cyclic redundancy checks, each byte taken most significant bit first. -/

namespace Sys2Proof.Machine

/-- One bit of the CRC-8 with polynomial x^8 + x^2 + x + 1 (R25). -/
def crc8Bit (c : BitVec 8) : BitVec 8 := if c.msb then (c <<< 1) ^^^ 0x07#8 else c <<< 1

/-- One byte into the CRC-8 (R25). -/
def crc8Byte (c : BitVec 8) (b : Byte) : BitVec 8 := crc8Bit^[8] (c ^^^ b)

/-- The CRC-8 of riser frames: initial value 0, no final inversion (R25). -/
def crc8 (bytes : List Byte) : BitVec 8 := bytes.foldl crc8Byte 0#8

/-- One bit of the CRC-16 with polynomial 0x1021 (R171). -/
def crc16Bit (c : BitVec 16) : BitVec 16 := if c.msb then (c <<< 1) ^^^ 0x1021#16 else c <<< 1

/-- One byte into the CRC-16 (R171). -/
def crc16Byte (c : BitVec 16) (b : Byte) : BitVec 16 := crc16Bit^[8] (c ^^^ (b.zeroExtend 16 <<< 8))

/-- The CRC-16 of host frames: initial value 0xFFFF, no final inversion, over the length byte and the
body (R171). -/
def crc16 (bytes : List Byte) : BitVec 16 := bytes.foldl crc16Byte 0xFFFF#16

/-- One bit of the CRC-32 with polynomial 0x04C11DB7 (R184). -/
def crc32Bit (c : BitVec 32) : BitVec 32 := if c.msb then (c <<< 1) ^^^ 0x04C11DB7#32 else c <<< 1

/-- One byte into the CRC-32 (R184). -/
def crc32Byte (c : BitVec 32) (b : Byte) : BitVec 32 := crc32Bit^[8] (c ^^^ (b.zeroExtend 32 <<< 24))

/-- The CRC-32 of the configuration image: initial value 0xFFFFFFFF, inverted before it is stored
(R184). -/
def crc32 (bytes : List Byte) : BitVec 32 := ~~~ (bytes.foldl crc32Byte 0xFFFFFFFF#32)

end Sys2Proof.Machine
end

