-- ==== Sys2Proof/WellFormed.lean ====
section
/-! DEFINITION. The checks that a command must pass to be one the wire can carry. The meanings do not
rely on them. -/

namespace Sys2Proof

/-- A request that one frame body of at most 250 bytes can carry (R171, R182). -/
def Request.wf : Request → Bool
  | .settingsWrite entries => decide (entries.length ≤ 49)
  | .bulkUpdate source _ _ _ first last bitmap =>
      if source = 0#8 then decide (first = 0#8) && decide (last = 0#8) && bitmap.isEmpty
      else decide (bitmap.length ≤ 242)
  | .unknownKind kind fields =>
      !(decide (1 ≤ kind.toNat) && decide (kind.toNat ≤ 26)) && decide (fields.length ≤ 248)
  | .badLength _ => false
  | .badChoice _ => false
  | .identify => true
  | .terminalWrite .. => true
  | .terminalRemove _ => true
  | .terminalRead _ => true
  | .learnedList _ => true
  | .domainWrite .. => true
  | .domainRemove _ => true
  | .domainRead _ => true
  | .floorUnitWrite _ => true
  | .floorUnitRemove _ => true
  | .floorUnitRead _ => true
  | .settingsRead => true
  | .matchTerminals .. => true
  | .faultList _ => true
  | .faultRead _ => true
  | .faultAck _ => true
  | .faultClear _ => true
  | .decideNow _ => true
  | .powerRead .. => true
  | .countersRead _ => true
  | .noticeMaskWrite .. => true
  | .resync .. => true
  | .configSave => true
  | .softRestart => true

/-- The tag and the request that a request command stands for (assumption 7); none for an event. -/
def Instr.request : Instr → Option (Byte × Request)
  | .identify tag => some (tag, .identify)
  | .terminalWrite tag a d c n l m w => some (tag, .terminalWrite a d c n l m w)
  | .terminalRemove tag a => some (tag, .terminalRemove a)
  | .terminalRead tag a => some (tag, .terminalRead a)
  | .learnedList tag p => some (tag, .learnedList p)
  | .domainWrite tag i l p c t => some (tag, .domainWrite i l p c t)
  | .domainRemove tag i => some (tag, .domainRemove i)
  | .domainRead tag i => some (tag, .domainRead i)
  | .floorUnitWrite tag f => some (tag, .floorUnitWrite f)
  | .floorUnitRemove tag f => some (tag, .floorUnitRemove f)
  | .floorUnitRead tag f => some (tag, .floorUnitRead f)
  | .settingsWrite tag es => some (tag, .settingsWrite es)
  | .settingsRead tag => some (tag, .settingsRead)
  | .matchTerminals tag f l c p st m => some (tag, .matchTerminals f l c p st m)
  | .bulkUpdate tag so at_ op v f l b => some (tag, .bulkUpdate so at_ op v f l b)
  | .faultList tag p => some (tag, .faultList p)
  | .faultRead tag i => some (tag, .faultRead i)
  | .faultAck tag i => some (tag, .faultAck i)
  | .faultClear tag i => some (tag, .faultClear i)
  | .decideNow tag i => some (tag, .decideNow i)
  | .powerRead tag t i => some (tag, .powerRead t i)
  | .countersRead tag i => some (tag, .countersRead i)
  | .noticeMaskWrite tag f c => some (tag, .noticeMaskWrite f c)
  | .resync tag t w => some (tag, .resync t w)
  | .configSave tag => some (tag, .configSave)
  | .softRestart tag => some (tag, .softRestart)
  | .unknownKindRequest k tag fs => some (tag, .unknownKind k fs)
  | .hostFrameReceived _ => none
  | .hostFrameGapTimeout => none
  | .frameBoundary => none
  | .configSaveComplete => none
  | .softRestartPerformed _ => none
  | .powerOnReset .. => none
  | .pinReset .. => none
  | .supplyFail => none
  | .attentionAsserted => none
  | .poll _ => none
  | .status _ => none
  | .clear _ => none
  | .riserBusy _ => none
  | .replyWindowExpiry => none
  | .riserReplyReceived _ => none
  | .replyAbandoned => none
  | .clearTransactionEnd => none
  | .gapTimerExpiry => none
  | .stepTimerExpiry => none
  | .feederSample .. => none
  | .gaspHoldExpiry _ => none
  | .holdDownExpiry _ => none
  | .agingTick => none
  | .windowTimerExpiry _ => none
  | .clearingTimerExpiry _ => none
  | .reminderTimerExpiry _ => none
  | .hostByteReceived .. => none
  | .riserCharacterReceived => none
  | .fmuEventRecorded .. => none
  | .fmuStart .. => none

/-- A whole host frame after its sync byte: a length L in 2..250, L body bytes and two CRC bytes (R171). -/
def wholeFrame (bytes : List Byte) : Bool :=
  match bytes with
  | [] => false
  | l :: rest => decide (2 ≤ l.toNat) && decide (l.toNat ≤ 250) && decide (rest.length = l.toNat + 2)

/-- The check of one command. A riser reply frame is a run of one or more characters (R24). -/
def Instr.wf (i : Instr) : Bool :=
  match i with
  | .hostFrameReceived bytes => wholeFrame bytes
  | .riserReplyReceived chars => !chars.isEmpty
  | _ => match i.request with
    | some (_, r) => r.wf
    | none => true

end Sys2Proof
end

