-- ==== Sys2Proof/Decode.lean ====
section
/-! DEFINITION. Reading a request from the body of a host frame (R171, R182) and writing it; and the
table's words, of which this table has none. -/

namespace Sys2Proof

open Machine (crc16)

/-- Two bytes, high byte first (R182). -/
def join16 (hi lo : Byte) : Word16 := hi ++ lo

/-- Four bytes, high byte first (R182). -/
def join32 (a b c d : Byte) : Word32 := (a ++ b) ++ (c ++ d)

/-- The bytes of a two-byte integer, high byte first (R182). -/
def split16 (w : Word16) : List Byte := [w.extractLsb' 8 8, w.extractLsb' 0 8]

/-- The bytes of a four-byte integer, high byte first (R182). -/
def split32 (w : Word32) : List Byte :=
  [w.extractLsb' 24 8, w.extractLsb' 16 8, w.extractLsb' 8 8, w.extractLsb' 0 8]

/-- A flag byte: 0 or 1. Other values name no flag (assumption 9). -/
def flagOf (b : Byte) : Option Bool :=
  if b = 0#8 then some false else if b = 1#8 then some true else none

/-- A flag as its byte. -/
def flagByte (b : Bool) : Byte := if b then 1#8 else 0#8

/-- An optional value: its presence byte (0 absent, 1 present) chooses; the value bytes are always sent
(R182). The outer `none` is a presence byte that is neither (assumption 9). With presence 0 the value bytes are
ignored, whatever they are (DESIGN CHOICE, assumption 49). -/
def optionOf {α : Type} (presence : Byte) (value : α) : Option (Option α) :=
  (flagOf presence).map fun p => if p then some value else none

/-- The entries of a SETTINGS_WRITE: a setting number and a signed four-byte value each (R178, R182). -/
def parseEntries : List Byte → List (Byte × Word32)
  | n :: a :: b :: c :: d :: rest => (n, join32 a b c d) :: parseEntries rest
  | _ => []

/-- The 64 flags of a floor mask, eight bytes, floor 63 in bit 7 of the first (assumption 11). -/
def join64 : List Byte → BitVec 64
  | [a, b, c, d, e, f, g, h] => ((a ++ b) ++ (c ++ d)) ++ ((e ++ f) ++ (g ++ h))
  | _ => 0#64

/-- The bytes of a floor mask (assumption 11). -/
def split64 (w : BitVec 64) : List Byte :=
  [w.extractLsb' 56 8, w.extractLsb' 48 8, w.extractLsb' 40 8, w.extractLsb' 32 8,
   w.extractLsb' 24 8, w.extractLsb' 16 8, w.extractLsb' 8 8, w.extractLsb' 0 8]

/-- The fields of a TERMINAL_WRITE. -/
def parseTerminalWrite (kind : Byte) : List Byte → Request
  | [a1, a0, d, c, n, l1, l0, m, w] =>
      match flagOf n, flagOf m, flagOf w with
      | some n, some m, some w => .terminalWrite (join16 a1 a0) d c n (join16 l1 l0) m w
      | _, _, _ => .badChoice kind
  | _ => .badLength kind

/-- The fields of a DOMAIN_WRITE. -/
def parseDomainWrite (kind : Byte) : List Byte → Request
  | [i, l, pp, p, cp, c, tp, tf, tt] =>
      match optionOf pp p, optionOf cp c, optionOf tp (tf, tt) with
      | some p, some c, some t => .domainWrite i l p c t
      | _, _, _ => .badChoice kind
  | _ => .badLength kind

/-- The fields of a MATCH. The two bytes of an absent state set are ignored, bits 9 to 15 included (R149, DESIGN CHOICE,
assumption 49). -/
def parseMatch (kind : Byte) : List Byte → Request
  | [f, l, c, p, sp, s1, s0, m] =>
      match optionOf sp (join16 s1 s0) with
      | some st => .matchTerminals f l c p st m
      | none => .badChoice kind
  | _ => .badLength kind

/-- The fields of a SETTINGS_WRITE: its length follows from its count (R182). -/
def parseSettingsWrite (kind : Byte) : List Byte → Request
  | n :: rest => if rest.length = 5 * n.toNat then .settingsWrite (parseEntries rest) else .badLength kind
  | [] => .badLength kind

/-- The fields of a BULK_UPDATE: a body of 6 bytes when the source byte is 0, otherwise of at least 8
(R182). -/
def parseBulkUpdate (kind : Byte) : List Byte → Request
  | source :: attrs :: op :: values :: rest =>
      if source = 0#8 then
        if rest.isEmpty then .bulkUpdate source attrs op values 0#8 0#8 [] else .badLength kind
      else match rest with
        | first :: last :: bitmap => .bulkUpdate source attrs op values first last bitmap
        | _ => .badLength kind
  | _ => .badLength kind

/-- The fields of a NOTICE_MASK_WRITE: eight bytes of floors and one of class enables (assumption 11). -/
def parseNoticeMaskWrite (kind : Byte) : List Byte → Request
  | [a, b, c, d, e, f, g, h, cl] =>
      if cl.extractLsb' 4 4 = 0#4 then .noticeMaskWrite (join64 [a, b, c, d, e, f, g, h]) (cl.extractLsb' 0 4)
      else .badChoice kind
  | _ => .badLength kind

/-- A request whose fields are one byte. -/
def parseOne (kind : Byte) (make : Byte → Request) : List Byte → Request
  | [a] => make a
  | _ => .badLength kind

/-- A request whose fields are one two-byte integer. -/
def parseOne16 (kind : Byte) (make : Word16 → Request) : List Byte → Request
  | [a, b] => make (join16 a b)
  | _ => .badLength kind

/-- A request whose fields are two bytes. -/
def parseTwo (kind : Byte) (make : Byte → Byte → Request) : List Byte → Request
  | [a, b] => make a b
  | _ => .badLength kind

/-- A request without fields. -/
def parseNone (kind : Byte) (r : Request) : List Byte → Request
  | [] => r
  | _ => .badLength kind

/-- The request of a frame body, from its kind byte and the bytes after the tag (R174 checks 2 and 3,
R182). Total: what names no request is `unknownKind`, `badLength` or `badChoice`. -/
def parseRequest (kind : Byte) (fields : List Byte) : Request :=
  match kind.toNat with
  | 1 => parseNone kind .identify fields
  | 2 => parseTerminalWrite kind fields
  | 3 => parseOne16 kind .terminalRemove fields
  | 4 => parseOne16 kind .terminalRead fields
  | 5 => parseOne kind .learnedList fields
  | 6 => parseDomainWrite kind fields
  | 7 => parseOne kind .domainRemove fields
  | 8 => parseOne kind .domainRead fields
  | 9 => parseOne kind .floorUnitWrite fields
  | 10 => parseOne kind .floorUnitRemove fields
  | 11 => parseOne kind .floorUnitRead fields
  | 12 => parseSettingsWrite kind fields
  | 13 => parseNone kind .settingsRead fields
  | 14 => parseMatch kind fields
  | 15 => parseBulkUpdate kind fields
  | 16 => parseOne kind .faultList fields
  | 17 => parseOne16 kind .faultRead fields
  | 18 => parseOne16 kind .faultAck fields
  | 19 => parseOne16 kind .faultClear fields
  | 20 => parseOne kind .decideNow fields
  | 21 => parseTwo kind .powerRead fields
  | 22 => parseOne kind .countersRead fields
  | 23 => parseNoticeMaskWrite kind fields
  | 24 => parseTwo kind .resync fields
  | 25 => parseNone kind .configSave fields
  | 26 => parseNone kind .softRestart fields
  | _ => .unknownKind kind fields

/-- The kind byte of a request: 0x01..0x1A in catalogue order (R171), or the byte its frame carried. -/
def Request.kind : Request → Byte
  | .identify => 1
  | .terminalWrite .. => 2
  | .terminalRemove _ => 3
  | .terminalRead _ => 4
  | .learnedList _ => 5
  | .domainWrite .. => 6
  | .domainRemove _ => 7
  | .domainRead _ => 8
  | .floorUnitWrite _ => 9
  | .floorUnitRemove _ => 10
  | .floorUnitRead _ => 11
  | .settingsWrite _ => 12
  | .settingsRead => 13
  | .matchTerminals .. => 14
  | .bulkUpdate .. => 15
  | .faultList _ => 16
  | .faultRead _ => 17
  | .faultAck _ => 18
  | .faultClear _ => 19
  | .decideNow _ => 20
  | .powerRead .. => 21
  | .countersRead _ => 22
  | .noticeMaskWrite .. => 23
  | .resync .. => 24
  | .configSave => 25
  | .softRestart => 26
  | .unknownKind k _ => k
  | .badLength k => k
  | .badChoice k => k

/-- An optional byte: presence byte, then the value byte, zero when absent (R182). -/
def optionByte : Option Byte → List Byte
  | none => [0#8, 0#8]
  | some v => [1#8, v]

/-- The bytes of a request after its kind and tag (R182). -/
def encodeFields : Request → List Byte
  | .identify => []
  | .terminalWrite a d c n l m w =>
      split16 a ++ [d, c, flagByte n] ++ split16 l ++ [flagByte m, flagByte w]
  | .terminalRemove a => split16 a
  | .terminalRead a => split16 a
  | .learnedList p => [p]
  | .domainWrite i l p c t =>
      [i, l] ++ optionByte p ++ optionByte c ++
        (match t with | none => [0#8, 0#8, 0#8] | some (f, x) => [1#8, f, x])
  | .domainRemove i => [i]
  | .domainRead i => [i]
  | .floorUnitWrite f => [f]
  | .floorUnitRemove f => [f]
  | .floorUnitRead f => [f]
  | .settingsWrite es => BitVec.ofNat 8 es.length :: es.flatMap fun e => e.1 :: split32 e.2
  | .settingsRead => []
  | .matchTerminals f l c p st m =>
      [f, l, c, p] ++ (match st with | none => [0#8, 0#8, 0#8] | some w => 1#8 :: split16 w) ++ [m]
  | .bulkUpdate so at_ op v f l b => [so, at_, op, v] ++ (if so = 0#8 then [] else [f, l] ++ b)
  | .faultList p => [p]
  | .faultRead i => split16 i
  | .faultAck i => split16 i
  | .faultClear i => split16 i
  | .decideNow i => [i]
  | .powerRead t i => [t, i]
  | .countersRead i => [i]
  | .noticeMaskWrite f c => split64 f ++ [c.zeroExtend 8]
  | .resync t w => [t, w]
  | .configSave => []
  | .softRestart => []
  | .unknownKind _ fs => fs
  | .badLength _ => []
  | .badChoice _ => []

/-- A host frame after its sync byte: length byte, kind, tag, fields and the CRC-16 over length and body,
high byte first (R171). -/
def frameAfterSync (kind tag : Byte) (fields : List Byte) : List Byte :=
  let covered := BitVec.ofNat 8 (fields.length + 2) :: kind :: tag :: fields
  covered ++ split16 (crc16 covered)

/-- The host frame of a request, after its sync byte. -/
def requestFrame (tag : Byte) (r : Request) : List Byte := frameAfterSync r.kind tag (encodeFields r)

/-- The command that a table word spells. No row of the table gives bits, so no word spells one. -/
def decodeTableWord (_nbits _w : Nat) : Option Instr := none

end Sys2Proof
end

