-- ==== Sys2Proof/Machine/Types.lean ====
section
/-! DEFINITION. The data the part holds: records of the tables, notices, replies and frames. -/

namespace Sys2Proof.Machine

/-- A table keyed by number: pairs of key and record. -/
abbrev Table (α : Type) := List (Nat × α)

/-! ## Terminals (01 1.2, 05) -/

/-- The nine states, numbered in this order (05 5.1, R182). -/
inductive TState where
  | unseen | lit | gasped | heldDark | heldPower | offDark | offPower | restoring | noContact
  deriving DecidableEq, Repr

/-- The last cause of an off condition (R82). -/
inductive Cause where
  | dark | power
  deriving DecidableEq, Repr

/-- The off class of a terminal: the class of its TERMINAL_OFF (01 1.2). -/
inductive OffClass where
  | major | minor
  deriving DecidableEq, Repr

/-- The provisioned fields of a static entry that are saved in the image (01 1.2, 11.1). -/
structure Provisioned where
  domain   : Nat
  offClass : OffClass
  notify   : Bool
  label    : Word16
  masked   : Bool
  watch    : Bool
  deriving DecidableEq, Repr

/-- A static entry: provisioned fields and runtime record (R4, R82). FOLDED is the presence of the fault
link and HELD follows from the state (assumption 8). `offSince` is the model's own: the time of last change of the
off state that RESTORING left, which dates the off condition from its first dark (R82, R92, assumption 39). -/
structure Terminal where
  prov          : Provisioned
  state         : TState
  lit           : Bool
  gasp          : Bool
  reported      : Bool
  contact       : Bool
  prior         : Option TState
  link          : Option Nat
  gaspHold      : Option Nat
  holdDown      : Option Nat
  offSince      : Option Uptime
  flaps         : Nat
  gaspRecovered : Nat
  lastChange    : Option Uptime
  lastCause     : Option Cause
  deriving DecidableEq, Repr

/-- A learned entry (01 1.3). -/
structure Learned where
  floor : Nat
  first : Uptime
  last  : EventKind
  age   : Nat
  heard : Bool
  deriving DecidableEq, Repr

/-! ## Domains (01 1.4, 06 6.1) -/

/-- The levels, numbered in this order (R182). -/
inductive Level where
  | splitter | segment | feeder
  deriving DecidableEq, Repr

/-- The taps of an FMU, A sent as 0 and B as 1 (R182). -/
inductive Tap where
  | a | b
  deriving DecidableEq, Repr

/-- The window of a domain (R107). Times are uptimes. -/
inductive Window where
  | quiet
  | open (start stop cap : Uptime)
  | decided (fault : Nat)
  deriving DecidableEq, Repr

/-- The host-written fields of a domain record (01 1.4). -/
structure DomainFields where
  level   : Level
  parent  : Option Nat
  channel : Option Nat
  tap     : Option (Nat × Tap)
  deriving DecidableEq, Repr

/-- A domain record. Its member and child counts are computed (assumption 8). -/
structure Domain where
  fields : DomainFields
  window : Window
  deriving DecidableEq, Repr

/-! ## Fault records (07 7.1) -/

/-- The fault kinds, numbered in this order (R182). -/
inductive FaultKind where
  | fibreCut | powerCut | feederLoss | floorPower | unitLost
  deriving DecidableEq, Repr

/-- The state of an open record (07 7.1). -/
inductive FaultState where
  | opened | clearing
  deriving DecidableEq, Repr

/-- An open fault record (R133). Timers hold the milliseconds left. -/
structure FaultRecord where
  kind         : FaultKind
  subject      : Nat
  state        : FaultState
  openedAt     : Uptime
  affected     : Nat
  off          : Nat
  children     : Nat
  parent       : Option Nat
  held         : Bool
  announced    : Bool
  acked        : Bool
  reminders    : Nat
  lastProgress : Uptime
  clearing     : Option Nat
  reminder     : Option Nat
  deriving DecidableEq, Repr

/-- The fault table beside its records (R132, R134). -/
structure FaultControl where
  nextId    : Nat
  fullCount : Nat
  episode   : Bool
  deriving DecidableEq, Repr

/-! ## Floor units (02) -/

/-- The contact states of a provisioned FMU (02 2.7). -/
inductive Contact where
  | present | active | retrying | silent
  deriving DecidableEq, Repr

/-- The nine read-clear counters (R46). -/
structure UnitCounters where
  polls        : Nat
  good         : Nat
  noReply      : Nat
  parity       : Nat
  check        : Nat
  wrongAddress : Nat
  misses       : Nat
  events       : Nat
  unknown      : Nat
  deriving DecidableEq, Repr

/-- The record of a provisioned FMU (R21). A floor without a record is ABSENT. -/
structure FloorUnit where
  contact  : Contact
  misses   : Nat
  gaspTime : Option Uptime
  baseline : Bool
  resync   : Bool
  seq      : Option Bool
  counters : UnitCounters
  deriving DecidableEq, Repr

/-! ## Optical power (04) -/

/-- The level states, numbered in this order (R182). -/
inductive LevelState where
  | unknown | normal | low | los
  deriving DecidableEq, Repr

/-- The record of a measuring point (04 4.1). Powers are in tenths of a dBm. -/
structure Point where
  level   : LevelState
  average : Option Int
  last    : Option Int
  lows    : Nat
  deriving DecidableEq, Repr

/-- A feeder channel's record (04 4.1). -/
structure Feeder where
  point   : Point
  samples : Nat
  code    : Option (BitVec 12)
  rails   : Nat
  deriving DecidableEq, Repr

/-! ## Settings (10, settings table) -/

/-- The 33 settings, in number order and in the units of the table. -/
structure Settings where
  gaspHold       : Int
  holdDown       : Int
  windowSplitter : Int
  windowSegment  : Int
  windowFeeder   : Int
  maxFactor      : Int
  tfSplitter     : Int
  tfSegment      : Int
  tfFeeder       : Int
  tpSplitter     : Int
  tpSegment      : Int
  tpFeeder       : Int
  nminSplitter   : Int
  nminSegment    : Int
  nminFeeder     : Int
  clearingLimit  : Int
  reminder       : Int
  aging          : Int
  retries        : Int
  silentLimit    : Int
  stepInterval   : Int
  smoothing      : Int
  calibration0   : Int
  calibration1   : Int
  calibration2   : Int
  calibration3   : Int
  feederLos      : Int
  feederLow      : Int
  feederHyst     : Int
  tapLos         : Int
  tapLow         : Int
  tapHyst        : Int
  discipline     : Int
  deriving DecidableEq, Repr

/-- The four class enables (R161). -/
structure ClassEnables where
  critical : Bool
  major    : Bool
  minor    : Bool
  info     : Bool
  deriving DecidableEq, Repr

/-! ## Scheduler and riser (02, 03) -/

/-- The scope of a RESYNC (R61). -/
inductive Scope where
  | all
  | group (g : Nat)
  | one (floor : Nat)
  deriving DecidableEq, Repr

/-- A visit: its floor, the extra polls used, and whether one more extra poll is due (R51, R52). -/
structure Visit where
  floor : Nat
  extra : Nat
  again : Bool
  deriving DecidableEq, Repr

/-- An attention sweep (R58, R60): the next floor (none once the final floor has been reached), the final
floor, the resume point (none: cycle ended), and whether it started a transaction. -/
structure Sweep where
  next    : Option Nat
  final   : Nat
  resume  : Option Nat
  started : Bool
  deriving DecidableEq, Repr

/-- The poll scheduler's state (03). `pos` none is "cycle ended"; timers hold the milliseconds left. `skip` is
the floor provisioned at the cycle position, which waits for the next cycle (R53), and `cycleWaits` says that the
gap has ended with an attention assertion, so that a sweep runs before the next cycle begins (R54). -/
structure Sched where
  pos          : Option Nat
  skip         : Option Nat
  count        : Nat
  gap          : Option Nat
  level        : Nat
  step         : Option Nat
  windowOpen   : Bool
  lastPolled   : Option Nat
  visit        : Option Visit
  sweep        : Option Sweep
  sweepWanted  : Bool
  cycleUsed    : Bool
  cycleWaits   : Bool
  pendingClear : Option Scope
  deriving DecidableEq, Repr

/-- What a riser transaction sends (R27, R36). -/
inductive Order where
  | poll (floor : Nat) (seq : Bool)
  | status (floor : Nat)
  | clear (scope : Scope)
  deriving DecidableEq, Repr

/-- Where the present attempt stands: its command waits for the line (R24), has been sent, or its reply has
begun (R33). -/
inductive Phase where
  | toSend | sent | replying
  deriving DecidableEq, Repr

/-- The transaction in progress (R33 to R36). While its command waits, `elapsed` counts the milliseconds in
which the line has not been quiet (R24); from its sending, those since the end of the command frame (R33).
`orphan`: its floor was made ABSENT while it was in progress (R22). -/
structure Txn where
  order    : Order
  attempts : Nat
  phase    : Phase
  elapsed  : Nat
  orphan   : Bool
  deriving DecidableEq, Repr

/-- The riser bus controller and the line (02). `quiet`: the line has been quiet for two character times;
`heard`: a character has begun in the present millisecond (R24, assumption 6). `wire`: the replies that the
FMUs put on the pair at the last command, one for each FMU that answered (R26). -/
structure Riser where
  txn   : Option Txn
  mark  : Bool
  busy  : Nat
  quiet : Bool
  heard : Bool
  wire  : List (List RxChar)
  deriving DecidableEq, Repr

/-! ## Floor monitor units outside the part (02 2.3) -/

/-- A record of an FMU's event queue; the age in milliseconds (R28). -/
structure FmuRecord where
  kind : EventKind
  port : Nat
  age  : Nat
  deriving DecidableEq, Repr

/-- A floor monitor unit (R26, R28): the floor to which it is strapped, event queue oldest first, held reply
with its sequence bit, light map. `deaf`: it has heard an address byte in error and ignores everything until the line
goes quiet (R25). -/
structure Fmu where
  floor : Nat
  queue : List FmuRecord
  held  : Option (Bool × List FmuRecord)
  light : BitVec 16
  deaf  : Bool
  deriving DecidableEq, Repr

/-! ## Notices (09, and the rule that owns each kind) -/

/-- The four classes, numbered in this order (R171). -/
inductive NoticeClass where
  | critical | major | minor | info
  deriving DecidableEq, Repr

/-- TERMINAL_OFF reasons (R103). -/
inductive OffReason where
  | window | released | unmasked
  deriving DecidableEq, Repr

/-- TERMINAL_RESTORED paths (R104). -/
inductive RestorePath where
  | holdDown | baseline
  deriving DecidableEq, Repr

/-- WATCH sub-kinds with what each carries (R105). -/
inductive WatchKind where
  | gaspRecovered (count : Nat)
  | transient (held : TState)
  | flap (count : Nat)
  deriving DecidableEq, Repr

/-- FAULT_CLOSED reasons (R146). -/
inductive CloseReason where
  | cleared | clearingLimit | unitReturned | host
  deriving DecidableEq, Repr

/-- Start kinds (R187, R188). -/
inductive StartKind where
  | powerOn | pin | soft
  deriving DecidableEq, Repr

/-- Image status of a start (R187, R188). -/
inductive ImageStatus where
  | loaded | checkFailed | kept
  deriving DecidableEq, Repr

/-- The four host line rates in bit/s (R181). -/
inductive LineRate where
  | r57600 | r115200 | r230400 | r460800
  deriving DecidableEq, Repr

/-- The subject of a power notice (R74, R75). -/
inductive PowerSubject where
  | feeder (channel : Nat)
  | tap (floor : Nat) (tap : Tap)
  deriving DecidableEq, Repr

/-- The subject of a fault notice: a domain with its level, or a floor (R146). -/
inductive FaultSubject where
  | domain (id : Nat) (level : Level)
  | floor (floor : Nat)
  deriving DecidableEq, Repr

/-- The six counts of a baseline (R101). -/
structure BaselineCounts where
  lit       : Nat
  restored  : Nat
  dark      : Nat
  resumed   : Nat
  raised    : Nat
  unchanged : Nat
  deriving DecidableEq, Repr

/-- The content of a class notice; its uptime and class stand beside it. -/
inductive NoticeBody where
  | started (kind : StartKind) (image : ImageStatus) (saveCount statics domains floors : Nat) (rate : LineRate)
  | configLost (erased : Bool)
  | baselineDone (floor statics : Nat) (counts : BaselineCounts)
  | unprovisioned (addr : Nat) (kind : EventKind) (time : Uptime) (learned : Bool)
  | terminalOff (addr : Nat) (label : Word16) (cause : Option Cause) (offTime : Option Uptime)
      (reason : OffReason) (state : TState)
  | terminalRestored (addr : Nat) (label : Word16) (cause : Option Cause) (offTime : Option Uptime)
      (path : RestorePath) (flaps : Nat)
  | watch (addr : Nat) (label : Word16) (kind : WatchKind) (state : TState) (time : Uptime)
  | powerLow (subject : PowerSubject) (domain : Nat) (entered left : LevelState) (average last : Int)
  | levelRecovered (subject : PowerSubject) (domain : Nat) (left : LevelState) (average last : Int)
  | faultOpened (id : Nat) (kind : FaultKind) (subject : FaultSubject) (channel : Option Nat)
      (openedAt : Uptime) (affected off children : Nat) (held : Bool)
  | faultReminder (id : Nat) (kind : FaultKind) (subject : FaultSubject) (state : FaultState)
      (openedAt : Uptime) (affected off children reminders : Nat)
  | faultClosed (id : Nat) (kind : FaultKind) (subject : FaultSubject) (reason : CloseReason)
      (byHost : Bool) (openedAt : Uptime) (affected released unlinked : Nat) (acked : Bool) (reminders : Nat)
  | tableFull (kind : FaultKind) (subject : FaultSubject) (fullCount : Nat)
  deriving DecidableEq, Repr

/-- A queued notice: the uptime of its offer and its content (R164). -/
structure Notice where
  uptime : Uptime
  body   : NoticeBody
  deriving DecidableEq, Repr

/-- The states of an overflow slot (R165). -/
inductive Slot where
  | empty | armed | due
  deriving DecidableEq, Repr

/-- A class queue with its counts and overflow slot (R159, R162, R165, R166). -/
structure ClassQueue where
  queue     : List Notice
  offered   : Nat
  sent      : Nat
  dropped   : Nat
  masked    : Nat
  slot      : Slot
  slotCount : Nat
  deriving DecidableEq, Repr

/-- The credits of the WEIGHTED round (R163). -/
structure Credits where
  critical : Nat
  major    : Nat
  minor    : Nat
  info     : Nat
  deriving DecidableEq, Repr

/-- What PART_GASP carries (R167): the uptime, queued and drop counts of the classes, open records, save in
progress. -/
structure PartGasp where
  uptime : Uptime
  queued : List Nat
  drops  : List Nat
  faults : Nat
  saving : Bool
  deriving DecidableEq, Repr

/-- The notice queues (09). -/
structure NoticeQueues where
  critical    : ClassQueue
  major       : ClassQueue
  minor       : ClassQueue
  info        : ClassQueue
  credits     : Credits
  floorMasked : Table Nat
  partGasp    : Option PartGasp
  deriving DecidableEq, Repr

/-! ## Replies (10 10.3, and the rule that owns each request) -/

/-- Status codes, numbered in this order (R175). -/
inductive Status where
  | ok | unknownKind | badLength | outOfRange | notFound | badLevel | tableFull | domainFull | inUse | busy
  | halted
  deriving DecidableEq, Repr

/-- Decisions of a window close, numbered in this order (R119, R182). -/
inductive Decision where
  | fibreCut | powerCut | individual | none
  deriving DecidableEq, Repr

/-- The figures of a window close (R114). `recorded` holds the fault id and whether its notice is held. -/
structure CloseReport where
  level    : Level
  start    : Uptime
  stop     : Uptime
  m        : Nat
  nd       : Nat
  ng       : Nat
  shares   : Option (Nat × Nat)
  decision : Decision
  step     : Nat
  recorded : Option (Nat × Bool)
  released : Nat
  folded   : Nat
  linked   : Nat
  offered  : Nat
  deriving DecidableEq, Repr

/-- One class as COUNTERS_READ reports it (R166). -/
structure ClassCounts where
  offered   : Nat
  sent      : Nat
  dropped   : Nat
  masked    : Nat
  queued    : Nat
  capacity  : Nat
  slot      : Slot
  slotCount : Nat
  deriving DecidableEq, Repr

/-- The link and class counters (R177). -/
structure LinkCounts where
  good         : Nat
  crcErrors    : Nat
  lengthErrors : Nat
  abandoned    : Nat
  overruns     : Nat
  riserBusy    : Nat
  learnedFull  : Nat
  duplicates   : Nat
  lateGasps    : Nat
  transients   : Nat
  absorbed     : Nat
  tableFull    : Nat
  classes      : List ClassCounts
  discipline   : Int
  credits      : Option Credits
  floorMasked  : List Nat
  deriving DecidableEq, Repr

/-- IDENTIFY's figures (R180). -/
structure Identity where
  edition   : Nat
  rate      : LineRate
  uptime    : Uptime
  halted    : Bool
  loaded    : Bool
  saveCount : Nat
  statics   : Nat
  learned   : Nat
  domains   : Nat
  floors    : Nat
  faults    : Nat
  deriving DecidableEq, Repr

/-- The fields of an OK reply, by the rule that owns the request. -/
inductive ReplyBody where
  | empty
  | identity (i : Identity)
  | terminalWritten (addr : Nat) (created learnedRemoved : Bool) (members : Nat)
  | terminal (addr : Nat) (t : Terminal)
  | learned (total start : Nat) (entries : Table Learned)
  | domainWritten (id : Nat) (d : DomainFields) (members children : Nat)
  | domain (id : Nat) (d : Domain) (members children : Nat)
  | floorWritten (newly : Bool) (contact : Contact) (statics : Nat)
  | floor (unit : Option FloorUnit) (tapA tapB : Option Nat) (statics : Nat)
  | settingsApplied (entries : List (Nat × Int))
  | settings (all : Settings) (level count : Nat) (saving : Bool)
  | matched (first last count : Nat) (bitmap : List Byte) (latchSize : Nat)
  | bulk (selection named changed unchanged skipped offered : Nat)
  | faults (total next full start : Nat) (entries : Table FaultRecord)
  | fault (id : Nat) (f : FaultRecord) (children : List Nat)
  | faultAcked (id : Nat) (state : FaultState) (reminders : Nat) (already : Bool)
  | faultCleared (records terminals : Nat)
  | decided (r : CloseReport)
  | noWindow (w : Window)
  | feederPower (f : Feeder) (calibration : Int) (domain : Option Nat)
  | tapPower (a b : Point) (domainA domainB : Option Nat)
  | unitCounters (c : UnitCounters) (contact : Contact) (misses : Nat)
  | linkCounters (c : LinkCounts)
  | masks (floors : BitVec 64) (classes : ClassEnables)
  | resynced (type which : Byte) (marked : Nat)
  | saved (saveCount statics domains floors : Nat)
  deriving DecidableEq, Repr

/-- A reply: status code, the two flags, fields (R175). -/
structure Reply where
  status   : Status
  clamped  : Bool
  noWindow : Bool
  body     : ReplyBody
  deriving DecidableEq, Repr

/-! ## Host link (10) -/

/-- The condition of a buffered request (R173); an answered one whose reply frame is on the line is
`sending`. -/
inductive Condition where
  | waiting
  | inHand
  | answered (r : Reply)
  | sending (r : Reply)
  deriving DecidableEq, Repr

/-- A buffered request (R173). -/
structure Entry where
  tag  : Byte
  req  : Request
  cond : Condition
  deriving DecidableEq, Repr

/-- The frame on the line (R163, R164, R165, R167). A class notice stays at the head of its queue while its
frame is sent. -/
inductive TxFrame where
  | reply (kind tag : Byte) (r : Reply)
  | notice (c : NoticeClass) (n : Notice)
  | overflow (c : NoticeClass) (count drops : Nat) (uptime : Uptime)
  | partGasp (p : PartGasp)
  deriving DecidableEq, Repr

/-- The bytes of a partial frame after its sync byte, and the milliseconds left of the 20 ms gap limit
(R172). -/
structure Partial where
  bytes : List Byte
  gap   : Nat
  deriving DecidableEq, Repr

/-- The host link controller (10). `rx` none: hunting. `restart`: a SOFT_RESTART has been taken (R188). -/
structure HostLink where
  rx           : Option Partial
  buffer       : List Entry
  tx           : Option TxFrame
  good         : Nat
  crcErrors    : Nat
  lengthErrors : Nat
  abandoned    : Nat
  overruns     : Nat
  rate         : LineRate
  restart      : Bool
  deriving DecidableEq, Repr

/-! ## Configuration store and the rest -/

/-- The content of the configuration image (11.1). -/
structure Image where
  terms     : Table Provisioned
  domains   : Table DomainFields
  floors    : List Nat
  settings  : Settings
  floorMask : BitVec 64
  enables   : ClassEnables
  saveCount : Nat
  deriving DecidableEq, Repr

/-- The image area: erased, holding an image whose writing is not complete, or an image with its stored
CRC-32 (R184, R186). -/
inductive Flash where
  | erased
  | cut
  | written (image : Image) (crc : BitVec 32)
  deriving DecidableEq, Repr

/-- The configuration store (11). `saving` holds the copy of a save in progress (R185). -/
structure Store where
  flash       : Flash
  saving      : Option Image
  saveCount   : Nat
  imageLoaded : Bool
  deriving DecidableEq, Repr

/-- Counts of the terminal table and the aging timer (R13, R84). -/
structure Tally where
  duplicates  : Nat
  lateGasps   : Nat
  transients  : Nat
  absorbed    : Nat
  learnedFull : Nat
  aging       : Nat
  deriving DecidableEq, Repr

/-- The time base: uptime, and the milliseconds since its last step. -/
structure Clock where
  uptime : Uptime
  ms     : Nat
  deriving DecidableEq, Repr

end Sys2Proof.Machine
end

