-- ==== Sys2Proof/Machine/Initial.lean ====
section
/-! DEFINITION. The values with which each record of the part begins. -/

namespace Sys2Proof.Machine

/-- The defaults of the settings table (10). -/
def defaultSettings : Settings where
  gaspHold := 2000
  holdDown := 5
  windowSplitter := 3
  windowSegment := 4
  windowFeeder := 5
  maxFactor := 4
  tfSplitter := 160
  tfSegment := 128
  tfFeeder := 128
  tpSplitter := 128
  tpSegment := 128
  tpFeeder := 128
  nminSplitter := 2
  nminSegment := 2
  nminFeeder := 2
  clearingLimit := 120
  reminder := 15
  aging := 30
  retries := 1
  silentLimit := 3
  stepInterval := 500
  smoothing := 2
  calibration0 := 0
  calibration1 := 0
  calibration2 := 0
  calibration3 := 0
  feederLos := -280
  feederLow := -240
  feederHyst := 10
  tapLos := -300
  tapLow := -260
  tapHyst := 10
  discipline := 1

/-- Every class enabled: after a failed image check (R161). -/
def allEnabled : ClassEnables := ⟨true, true, true, true⟩

/-- The runtime record of a new entry, and of every entry after a reset (R4, R8, R106). -/
def newTerminal (p : Provisioned) : Terminal where
  prov := p
  state := .unseen
  lit := false
  gasp := false
  reported := false
  contact := false
  prior := none
  link := none
  gaspHold := none
  holdDown := none
  offSince := none
  flaps := 0
  gaspRecovered := 0
  lastChange := none
  lastCause := none

/-- All nine counters 0 (R46). -/
def zeroCounters : UnitCounters := ⟨0, 0, 0, 0, 0, 0, 0, 0, 0⟩

/-- The runtime part of a newly provisioned FMU, and of every one after a reset (R21, R36, R48). -/
def newUnit : FloorUnit where
  contact := .present
  misses := 0
  gaspTime := none
  baseline := true
  resync := false
  seq := none
  counters := zeroCounters

/-- A domain record with its window QUIET (R18, R20). -/
def newDomain (d : DomainFields) : Domain := ⟨d, .quiet⟩

/-- A measuring point after a reset, and a tap slot whose floor was made ABSENT (R80). -/
def newPoint : Point := ⟨.unknown, none, none, 0⟩

/-- A feeder channel after a reset (R80). -/
def newFeeder : Feeder := ⟨newPoint, 0, none, 0⟩

/-- The four feeder channels after a reset (R80). -/
def newFeeders : Table Feeder := [(0, newFeeder), (1, newFeeder), (2, newFeeder), (3, newFeeder)]

/-- The record fields of a fault as it is opened (R133). -/
def newFault (kind : FaultKind) (subject : Nat) (now : Uptime) : FaultRecord where
  kind := kind
  subject := subject
  state := .opened
  openedAt := now
  affected := 0
  off := 0
  children := 0
  parent := none
  held := false
  announced := false
  acked := false
  reminders := 0
  lastProgress := now
  clearing := none
  reminder := none

/-- The fault table's control after each reset (R147). -/
def newFaultControl : FaultControl := ⟨1, 0, false⟩

/-- The scheduler after each reset, with the step interval in force (R64). -/
def newSched (stepInterval : Nat) : Sched where
  pos := some 0
  skip := none
  count := 0
  gap := none
  level := 1
  step := some stepInterval
  windowOpen := false
  lastPolled := none
  visit := none
  sweep := none
  sweepWanted := false
  cycleUsed := false
  cycleWaits := false
  pendingClear := none

/-- The riser bus controller after each reset (R48). The line is taken as not yet quiet, since the first
command waits for the quiet rule (assumption 6). -/
def newRiser : Riser := ⟨none, false, 0, false, false, []⟩

/-- An empty class queue (R170). -/
def newQueue : ClassQueue := ⟨[], 0, 0, 0, 0, .empty, 0⟩

/-- Full credits of a round (R163). -/
def fullCredits : Credits := ⟨8, 4, 2, 1⟩

/-- The notice queues after each reset (R170). -/
def newQueues : NoticeQueues := ⟨newQueue, newQueue, newQueue, newQueue, fullCredits, [], none⟩

/-- The host link after each reset, at a line rate (R173, R177). -/
def newLink (rate : LineRate) : HostLink := ⟨none, [], none, 0, 0, 0, 0, 0, rate, false⟩

/-- The terminal table's counts after each reset, the aging timer starting a full period (R13, R84). -/
def newTally (agingMinutes : Nat) : Tally := ⟨0, 0, 0, 0, 0, agingMinutes * 60000⟩

/-- What is in force when the image check fails: empty tables, defaults, nothing masked (R187). -/
def emptyImage : Image where
  terms := []
  domains := []
  floors := []
  settings := defaultSettings
  floorMask := 0
  enables := allEnabled
  saveCount := 0

/-- An FMU of a floor as it starts, with the ports it finds lit (R32). -/
def newFmu (floor : Nat) (light : BitVec 16) : Fmu :=
  ⟨floor, ((List.range 16).filter fun p => light.getLsbD p).map fun p => ⟨.light, p, 0⟩, none, light, false⟩

end Sys2Proof.Machine
end

