-- ==== Sys2Proof/Machine/State.lean ====
section
/-! DEFINITION. The whole state of the part, the reasons a step can stop, and the state after reset. -/

namespace Sys2Proof.Machine

/-- What stops the machine. The manual names no such condition: HALTED answers requests (R169) and a fault
record is state (chapter 7), so there is no constructor, and nobody raises one. Safe: nothing stops. -/
inductive Fault where
  deriving DecidableEq, Repr

/-- Why a command has no meaning. -/
inductive Refusal where
  /-- Raised by exec for a command whose meaning is not written; no arm of exec raises it. Safe: the machine
  stops where the hardware goes on. -/
  | notModelled (mnemonic : String)
  deriving DecidableEq, Repr

/-- The state: the waiting commands, every block of 00's block overview, and the FMUs as far as the spec
gives them. -/
structure State where
  /-- The waiting commands, first in, first out (the model's own; assumption 1). -/
  pending   : List Instr
  clock     : Clock
  link      : HostLink
  riser     : Riser
  sched     : Sched
  /-- Floor unit table: provisioned floors, ascending. -/
  units     : Table FloorUnit
  /-- Feeder channels 0..3. -/
  feeders   : Table Feeder
  /-- Tap slots by floor × 2 + tap; an unlisted slot is as after a reset. -/
  taps      : Table Point
  /-- Static terminal table by address, ascending. -/
  terms     : Table Terminal
  /-- Learned table by address, in creation order. -/
  learned   : Table Learned
  tally     : Tally
  /-- Domain table by id, ascending. -/
  domains   : Table Domain
  /-- Open fault records by fault id, in opening order. -/
  faults    : Table FaultRecord
  faultCtl  : FaultControl
  /-- Selection latch: addresses, rising. -/
  latch     : List Nat
  notices   : NoticeQueues
  floorMask : BitVec 64
  enables   : ClassEnables
  settings  : Settings
  store     : Store
  halted    : Bool
  /-- FMUs that have started, by number, ascending (assumption 5). -/
  fmus      : Table Fmu
  deriving DecidableEq, Repr

/-- The part right after reset, with an erased image area, both straps low and no FMU started
(assumptions 3, 4 and 5): every field at the value that its chapter's reset rule gives (R8, R13, R20, R23,
R48, R64, R80, R106, R107, R147, R148, R170). POWER_ON_RESET goes on from these values to offer the start's
notices and to begin the first cycle (R187). -/
def State.reset : State where
  pending := []
  clock := ⟨0, 0⟩
  link := newLink .r57600
  riser := newRiser
  sched := newSched 500
  units := []
  feeders := newFeeders
  taps := []
  terms := []
  learned := []
  tally := newTally 30
  domains := []
  faults := []
  faultCtl := newFaultControl
  latch := []
  notices := newQueues
  floorMask := 0
  enables := allEnabled
  settings := defaultSettings
  store := ⟨.erased, none, 0, false⟩
  halted := false
  fmus := []

end Sys2Proof.Machine
end

