-- ==== Sys2Proof/Machine/Tables.lean ====
section
/-! DEFINITION. Operations on tables keyed by number, on sets of addresses, and on saturating counts. -/

namespace Sys2Proof.Machine

/-- The record at a key. -/
def Table.get? {α : Type} (t : Table α) (k : Nat) : Option α :=
  match t with
  | [] => none
  | (k', v) :: rest => if k' = k then some v else Table.get? rest k

/-- Whether a key is held. -/
def Table.has {α : Type} (t : Table α) (k : Nat) : Bool := (Table.get? t k).isSome

/-- Changes the record at a key, where there is one. -/
def Table.modify {α : Type} (t : Table α) (k : Nat) (f : α → α) : Table α :=
  t.map fun e => if e.1 = k then (e.1, f e.2) else e

/-- Puts a record at a key, in the place that keeps the keys rising; an older record at the key goes. -/
def Table.put {α : Type} (t : Table α) (k : Nat) (v : α) : Table α :=
  match t with
  | [] => [(k, v)]
  | (k', v') :: rest =>
      if k < k' then (k, v) :: (k', v') :: rest
      else if k = k' then (k, v) :: rest
      else (k', v') :: Table.put rest k v

/-- Takes a key out. -/
def Table.erase {α : Type} (t : Table α) (k : Nat) : Table α := t.filter fun e => e.1 ≠ k

/-- The keys whose record meets a condition, in table order. -/
def Table.keysWhere {α : Type} (t : Table α) (p : Nat → α → Bool) : List Nat :=
  (t.filter fun e => p e.1 e.2).map Prod.fst

/-- How many records meet a condition. -/
def Table.countWhere {α : Type} (t : Table α) (p : Nat → α → Bool) : Nat :=
  (t.filter fun e => p e.1 e.2).length

/-- The canonical form of a sorted table: strictly rising keys. -/
def Table.rising {α : Type} : Table α → Bool
  | [] => true
  | [_] => true
  | a :: b :: rest => decide (a.1 < b.1) && Table.rising (b :: rest)

/-- No two records under one key. -/
abbrev Table.distinct {α : Type} (t : Table α) : Prop := (t.map Prod.fst).Nodup

/-- Puts an address into a rising list of addresses. -/
def insertAddr (a : Nat) : List Nat → List Nat
  | [] => [a]
  | b :: rest => if a < b then a :: b :: rest else if a = b then b :: rest else b :: insertAddr a rest

/-- The strictly rising lists: the form of the selection latch. -/
def risingAddrs : List Nat → Bool
  | [] => true
  | [_] => true
  | a :: b :: rest => decide (a < b) && risingAddrs (b :: rest)

/-- A count that rises by one and is held at its limit. -/
def satInc (limit n : Nat) : Nat := min (n + 1) limit

/-- A 16-bit count that saturates at 65535. -/
def inc16 (n : Nat) : Nat := satInc 65535 n

/-- An 8-bit count held at 255. -/
def inc8 (n : Nat) : Nat := satInc 255 n

/-- A 32-bit count that saturates at 4294967295. -/
def inc32 (n : Nat) : Nat := satInc 4294967295 n

/-- A time t is later than a time u when (t − u) modulo 2^32 lies in 1..2^31 − 1 (R111). -/
def later (t u : Uptime) : Bool := decide (1 ≤ (t - u).toNat) && decide ((t - u).toNat ≤ 2147483647)

/-- Runs a change over keys in order. -/
def overKeys {σ : Type} (keys : List Nat) (f : Nat → σ → σ) (s : σ) : σ := keys.foldl (fun s k => f k s) s

end Sys2Proof.Machine
end

