-- ==== Sys2Proof/Machine/Ops.lean ====
section
/-! DEFINITION. The named updates of the state, one per block, and the values computed from its tables. -/

namespace Sys2Proof.Machine

/-! ## Named updates -/

/-- Changes the host link. -/
def State.modLink (s : State) (f : HostLink → HostLink) : State := { s with link := f s.link }
/-- Changes the riser bus controller. -/
def State.modRiser (s : State) (f : Riser → Riser) : State := { s with riser := f s.riser }
/-- Changes the scheduler. -/
def State.modSched (s : State) (f : Sched → Sched) : State := { s with sched := f s.sched }
/-- Changes the record of a provisioned floor. -/
def State.modUnit (s : State) (floor : Nat) (f : FloorUnit → FloorUnit) : State :=
  { s with units := Table.modify s.units floor f }
/-- Changes a static entry. -/
def State.modTerm (s : State) (addr : Nat) (f : Terminal → Terminal) : State :=
  { s with terms := Table.modify s.terms addr f }
/-- Changes the learned table. -/
def State.modLearned (s : State) (f : Table Learned → Table Learned) : State :=
  { s with learned := f s.learned }
/-- Changes the terminal table's counts. -/
def State.modTally (s : State) (f : Tally → Tally) : State := { s with tally := f s.tally }
/-- Changes a domain record. -/
def State.modDomain (s : State) (id : Nat) (f : Domain → Domain) : State :=
  { s with domains := Table.modify s.domains id f }
/-- Changes an open fault record. -/
def State.modFault (s : State) (id : Nat) (f : FaultRecord → FaultRecord) : State :=
  { s with faults := Table.modify s.faults id f }
/-- Changes the fault table's control. -/
def State.modFaultCtl (s : State) (f : FaultControl → FaultControl) : State :=
  { s with faultCtl := f s.faultCtl }
/-- Changes the notice queues. -/
def State.modNotices (s : State) (f : NoticeQueues → NoticeQueues) : State :=
  { s with notices := f s.notices }
/-- Changes the configuration store. -/
def State.modStore (s : State) (f : Store → Store) : State := { s with store := f s.store }
/-- Changes the FMUs outside the part. -/
def State.modFmus (s : State) (f : Table Fmu → Table Fmu) : State := { s with fmus := f s.fmus }

/-- The next cycle begins from floor 0 (R50, R54), and every provisioned floor is in it (R53). -/
def Sched.newCycle (c : Sched) : Sched := { c with pos := some 0, skip := none, cycleUsed := false, cycleWaits := false }

/-! ## Lookups -/

/-- The present uptime. -/
def State.now (s : State) : Uptime := s.clock.uptime
/-- The static entry of an address. -/
def State.term? (s : State) (addr : Nat) : Option Terminal := Table.get? s.terms addr
/-- The domain record of an id. -/
def State.domain? (s : State) (id : Nat) : Option Domain := Table.get? s.domains id
/-- The open fault record of an id. -/
def State.fault? (s : State) (id : Nat) : Option FaultRecord := Table.get? s.faults id
/-- The record of a provisioned floor. -/
def State.unit? (s : State) (floor : Nat) : Option FloorUnit := Table.get? s.units floor
/-- A tap slot's index: floor × 2, plus 1 for tap B. -/
def tapIndex (floor : Nat) (tap : Tap) : Nat := floor * 2 + (match tap with | .a => 0 | .b => 1)
/-- A tap slot's record; an unlisted slot is as after a reset (R80). -/
def State.tapPoint (s : State) (floor : Nat) (tap : Tap) : Point :=
  (Table.get? s.taps (tapIndex floor tap)).getD newPoint
/-- A feeder channel's record. -/
def State.feeder (s : State) (channel : Nat) : Feeder := (Table.get? s.feeders channel).getD newFeeder

/-! ## Terminals -/

/-- The terminal address of a port (R1). -/
def addrOf (floor port : Nat) : Nat := floor * 16 + port
/-- The floor of an address (R1). -/
def floorOf (addr : Nat) : Nat := addr / 16
/-- The port of an address (R1). -/
def portOf (addr : Nat) : Nat := addr % 16

/-- The two held states. -/
def TState.isHeld : TState → Bool
  | .heldDark => true
  | .heldPower => true
  | _ => false

/-- The two off states. -/
def TState.isOff : TState → Bool
  | .offDark => true
  | .offPower => true
  | _ => false

/-- The HELD attribute (R83). -/
def Terminal.held (t : Terminal) : Bool := t.state.isHeld
/-- The FOLDED attribute: set exactly while the fault link is present (R82). -/
def Terminal.folded (t : Terminal) : Bool := t.link.isSome

/-- The eight attributes as an attribute set: LIT in bit 7 through WATCH in bit 0 (R182). -/
def Terminal.attrs (t : Terminal) : BitVec 8 :=
  let bit (b : Bool) (n : Nat) : BitVec 8 := if b then BitVec.twoPow 8 n else 0
  bit t.lit 7 ||| bit t.gasp 6 ||| bit t.held 5 ||| bit t.folded 4 ||| bit t.reported 3 ||| bit t.contact 2 |||
    bit t.prov.masked 1 ||| bit t.prov.watch 0

/-- A state's number (R182). -/
def TState.code : TState → Nat
  | .unseen => 0
  | .lit => 1
  | .gasped => 2
  | .heldDark => 3
  | .heldPower => 4
  | .offDark => 5
  | .offPower => 6
  | .restoring => 7
  | .noContact => 8

/-- The static entries of a floor, ascending. -/
def State.floorTerms (s : State) (floor : Nat) : List Nat := Table.keysWhere s.terms fun a _ => floorOf a = floor
/-- The static count of a floor (R2). -/
def State.staticCount (s : State) (floor : Nat) : Nat := Table.countWhere s.terms fun a _ => floorOf a = floor
/-- The member count of a splitter domain (R2). -/
def State.memberCount (s : State) (id : Nat) : Nat := Table.countWhere s.terms fun _ t => t.prov.domain = id
/-- The members of a splitter domain that meet a condition, ascending. -/
def State.members (s : State) (id : Nat) (p : Terminal → Bool) : List Nat :=
  Table.keysWhere s.terms fun _ t => t.prov.domain = id && p t
/-- The terminals linked to a fault record, ascending. -/
def State.linkedTerms (s : State) (fault : Nat) : List Nat := Table.keysWhere s.terms fun _ t => t.link = some fault

/-! ## Domains -/

/-- The child domains of a domain, in ascending id order. -/
def State.childDomains (s : State) (id : Nat) : List Nat :=
  Table.keysWhere s.domains fun _ d => d.fields.parent = some id
/-- The parent of a domain, where the domain exists and has one. -/
def State.parentOf (s : State) (id : Nat) : Option Nat := (s.domain? id).bind fun d => d.fields.parent
/-- The window state of a domain; an empty position has none, read as QUIET. -/
def State.windowOf (s : State) (id : Nat) : Window := ((s.domain? id).map Domain.window).getD .quiet
/-- The open fault of a domain: it is the subject of it while DECIDED (R107). -/
def Window.fault? : Window → Option Nat
  | .decided x => some x
  | .quiet => none
  | .open .. => none
/-- Whether a window is OPEN. -/
def Window.isOpen : Window → Bool
  | .open .. => true
  | .quiet => false
  | .decided _ => false
/-- Whether a window is QUIET. -/
def Window.isQuiet : Window → Bool
  | .quiet => true
  | .open .. => false
  | .decided _ => false
/-- How many domains are OPEN (R56). -/
def State.openCount (s : State) : Nat := Table.countWhere s.domains fun _ d => d.window.isOpen
/-- The SPLITTER that names a tap slot in its tap link: the floor unit table's mirror (R16, R65). -/
def State.tapLink (s : State) (floor : Nat) (tap : Tap) : Option Nat :=
  (Table.keysWhere s.domains fun _ d => d.fields.tap = some (floor, tap)).head?
/-- The FEEDER that names a feeder channel (R65). -/
def State.channelDomain (s : State) (channel : Nat) : Option Nat :=
  (Table.keysWhere s.domains fun _ d => d.fields.channel = some channel).head?

/-- The nearest DECIDED domain's fault, from `id` upward through at most `fuel` domains (R109, R125). -/
def State.decidedFrom (s : State) : Nat → Option Nat → Option Nat
  | 0, _ => none
  | _ + 1, none => none
  | fuel + 1, some id =>
      match s.domain? id with
      | none => none
      | some d => match d.window.fault? with
        | some x => some x
        | none => s.decidedFrom fuel d.fields.parent

/-! ## Faults -/

/-- The open record of a kind with a subject (R131). -/
def State.faultOn (s : State) (kind : FaultKind) (subject : Nat) : Option Nat :=
  (Table.keysWhere s.faults fun _ f => f.kind = kind && f.subject = subject).head?
/-- The open records linked to a record, in opening order. -/
def State.childFaults (s : State) (id : Nat) : List Nat := Table.keysWhere s.faults fun _ f => f.parent = some id
/-- The subject of a fault kind is a domain, not a floor (07 7.1). -/
def FaultKind.onDomain : FaultKind → Bool
  | .fibreCut => true
  | .powerCut => true
  | .feederLoss => true
  | .floorPower => false
  | .unitLost => false

/-! ## Attention line -/

/-- The kinds that pull the attention line (R32). -/
def isUrgent : EventKind → Bool
  | .gasp => true
  | .dark => true
  | .unitGasp => true
  | .light => false
/-- The attention line is low while some FMU's queue holds an urgent record (R32), also that of an FMU whose hold-up
reserve is spent, until it starts again (DESIGN CHOICE, assumption 48). -/
def State.attnLow (s : State) : Bool := s.fmus.any fun e => e.2.queue.any fun r => isUrgent r.kind

/-! ## Settings, by level -/

/-- The window length L of a level in uptime units (R108). -/
def Settings.windowUnits (c : Settings) : Level → Nat
  | .splitter => c.windowSplitter.toNat * 100
  | .segment => c.windowSegment.toNat * 100
  | .feeder => c.windowFeeder.toNat * 100
/-- The fibre threshold of a level (R118). -/
def Settings.tf (c : Settings) : Level → Nat
  | .splitter => c.tfSplitter.toNat
  | .segment => c.tfSegment.toNat
  | .feeder => c.tfFeeder.toNat
/-- The power threshold of a level (R118). -/
def Settings.tp (c : Settings) : Level → Nat
  | .splitter => c.tpSplitter.toNat
  | .segment => c.tpSegment.toNat
  | .feeder => c.tpFeeder.toNat
/-- The minimum population of a level (R118). -/
def Settings.nmin (c : Settings) : Level → Nat
  | .splitter => c.nminSplitter.toNat
  | .segment => c.nminSegment.toNat
  | .feeder => c.nminFeeder.toNat
/-- The calibration of a feeder channel (R66). -/
def Settings.calibration (c : Settings) : Nat → Int
  | 0 => c.calibration0
  | 1 => c.calibration1
  | 2 => c.calibration2
  | 3 => c.calibration3
  | _ => 0

end Sys2Proof.Machine
end

