-- ==== Sys2Proof/Machine/Notices.lean ====
section
/-! DEFINITION. Offering a notice to the notice queues (R159, R160), and the return of the pacing level
(R55) that the opening of a window and urgent events cause. -/

namespace Sys2Proof.Machine

/-- The capacity of a class queue (R159). -/
def NoticeClass.capacity : NoticeClass → Nat
  | .critical => 16
  | .major => 16
  | .minor => 32
  | .info => 32

/-- The queue of a class. -/
def NoticeQueues.get (n : NoticeQueues) : NoticeClass → ClassQueue
  | .critical => n.critical
  | .major => n.major
  | .minor => n.minor
  | .info => n.info

/-- Changes the queue of a class. -/
def NoticeQueues.mod (n : NoticeQueues) (c : NoticeClass) (f : ClassQueue → ClassQueue) : NoticeQueues :=
  match c with
  | .critical => { n with critical := f n.critical }
  | .major => { n with major := f n.major }
  | .minor => { n with minor := f n.minor }
  | .info => { n with info := f n.info }

/-- Whether a class is enabled (R161). -/
def ClassEnables.on (e : ClassEnables) : NoticeClass → Bool
  | .critical => e.critical
  | .major => e.major
  | .minor => e.minor
  | .info => e.info

/-- The floor of a notice that has a terminal as subject: the four kinds of R160. -/
def NoticeBody.terminalFloor : NoticeBody → Option Nat
  | .terminalOff addr .. => some (floorOf addr)
  | .terminalRestored addr .. => some (floorOf addr)
  | .watch addr .. => some (floorOf addr)
  | .unprovisioned addr .. => some (floorOf addr)
  | .started .. => none
  | .configLost _ => none
  | .baselineDone .. => none
  | .powerLow .. => none
  | .levelRecovered .. => none
  | .faultOpened .. => none
  | .faultReminder .. => none
  | .faultClosed .. => none
  | .tableFull .. => none

/-- A notice masked at its offer: offered and masked rise (R160 rows 1 and 2). -/
def ClassQueue.maskOne (q : ClassQueue) : ClassQueue :=
  { q with offered := inc32 q.offered, masked := inc16 q.masked }

/-- A notice dropped at its offer: offered and dropped rise, and the overflow slot is armed or counts
(R160 row 3, R165). -/
def ClassQueue.dropOne (q : ClassQueue) : ClassQueue :=
  { q with
    offered := inc32 q.offered
    dropped := inc16 q.dropped
    slot := if q.slot = .empty then .armed else q.slot
    slotCount := if q.slot = .empty then 1 else inc16 q.slotCount }

/-- A notice queued at the tail (R160 row 4). -/
def ClassQueue.join (q : ClassQueue) (n : Notice) : ClassQueue :=
  { q with offered := inc32 q.offered, queue := q.queue ++ [n] }

/-- The masked count of a floor rises (R162). -/
def NoticeQueues.maskFloor (n : NoticeQueues) (floor : Nat) : NoticeQueues :=
  { n with floorMasked := Table.put n.floorMasked floor (inc16 ((Table.get? n.floorMasked floor).getD 0)) }

/-- The floor by which the floor notice mask blocks a notice, where it does (R160 row 2). -/
def State.blockedFloor (s : State) (b : NoticeBody) : Option Nat :=
  b.terminalFloor.filter fun f => s.floorMask.getLsbD f

/-- A block offers a notice: it is settled at once as masked, dropped or queued (R160). -/
def State.offer (s : State) (c : NoticeClass) (b : NoticeBody) : State :=
  s.modNotices fun n =>
    if !s.enables.on c then n.mod c ClassQueue.maskOne
    else match s.blockedFloor b with
      | some f => (n.mod c ClassQueue.maskOne).maskFloor f
      | none =>
        if (n.get c).queue.length ≥ c.capacity then n.mod c ClassQueue.dropOne
        else n.mod c fun q => q.join ⟨s.now, b⟩

/-- The step timer's full interval in milliseconds (R57). -/
def State.stepMs (s : State) : Nat := s.settings.stepInterval.toNat

/-- The pacing level returns to 1, the step timer stops, and starts again when the window flag is clear
(R55). A gap that is running ends, and the next cycle begins from floor 0 (R54). -/
def Sched.pacingReturn (c : Sched) (stepMs : Nat) : Sched :=
  let c := { c with level := 1, step := if c.windowOpen then none else some stepMs }
  match c.gap with
  | none => c
  | some _ => { c with gap := none }.newCycle

/-- A cause of R55. -/
def State.pacingReturn (s : State) : State := s.modSched fun c => c.pacingReturn s.stepMs

/-- The scheduler's window flag follows the number of OPEN domains (R56): set when it rises from 0, which
stops the step timer, and cleared when it falls back to 0, which starts it with a full interval. -/
def State.syncWindowFlag (s : State) : State :=
  if s.openCount = 0 then
    if s.sched.windowOpen then s.modSched fun c => { c with windowOpen := false, step := some s.stepMs } else s
  else
    if s.sched.windowOpen then s else s.modSched fun c => { c with windowOpen := true, step := none }

end Sys2Proof.Machine
end

