-- ==== Sys2Proof/Machine/Faults.lean ====
section
/-! DEFINITION. The fault table (07): opening, links, progress, the clearing rule, and the ways a record is
removed; and what a terminal's record does when it is folded or unfolded. -/

namespace Sys2Proof.Machine

/-! ## Notices of a record -/

/-- The subject of a record as its notices carry it: a domain with its level as it stands, or a floor
(R146). -/
def State.faultSubject (s : State) (kind : FaultKind) (subject : Nat) : FaultSubject :=
  if kind.onDomain then
    .domain subject (((s.domain? subject).map fun d => d.fields.level).getD .splitter)
  else .floor subject

/-- The class of FAULT_OPENED and FAULT_REMINDER (R146). -/
def State.faultClass (s : State) (kind : FaultKind) (subject : Nat) : NoticeClass :=
  match kind with
  | .feederLoss => .critical
  | .floorPower => .major
  | .unitLost => .major
  | .fibreCut | .powerCut =>
    match s.faultSubject kind subject with
    | .domain _ .segment => .critical
    | .domain _ .feeder => .critical
    | .domain _ .splitter => .major
    | .floor _ => .major

/-- Starts a record's reminder timer when its four conditions hold and the interval is not 0 (R142). -/
def State.startReminder (s : State) (id : Nat) : State :=
  s.modFault id fun f =>
    if f.announced && !f.acked && f.parent.isNone && s.settings.reminder.toNat != 0 then
      { f with reminder := some (s.settings.reminder.toNat * 60000) }
    else f

/-- The FAULT_OPENED of a record as its fields stand (R146). -/
def State.openedNotice (s : State) (id : Nat) (f : FaultRecord) (wasHeld : Bool) : NoticeBody :=
  .faultOpened id f.kind (s.faultSubject f.kind f.subject)
    (if f.kind = .feederLoss then (s.domain? f.subject).bind fun d => d.fields.channel else none)
    f.openedAt f.affected f.off f.children wasHeld

/-- FAULT_OPENED is offered: the announced flag is set, the notice-held flag cleared, and the reminder timer
started when it is due (R133). -/
def State.offerOpened (s : State) (id : Nat) (wasHeld : Bool) : State :=
  match s.fault? id with
  | none => s
  | some f =>
    ((s.modFault id fun f => { f with announced := true, held := false }).startReminder id).offer
      (s.faultClass f.kind f.subject) (s.openedNotice id f wasHeld)

/-- FAULT_CLOSED is offered in class INFO (R146). -/
def State.offerClosed (s : State) (id : Nat) (reason : CloseReason) (released unlinked : Nat) : State :=
  match s.fault? id with
  | none => s
  | some f =>
    s.offer .info (.faultClosed id f.kind (s.faultSubject f.kind f.subject) reason (decide (reason = .host))
      f.openedAt f.affected released unlinked f.acked f.reminders)

/-- A held FAULT_OPENED is offered at the record's own close (R126). -/
def State.offerHeld (s : State) (id : Nat) : State :=
  if ((s.fault? id).map FaultRecord.held).getD false then s.offerOpened id true else s

/-! ## Ids and opening -/

/-- The id after another: 65535 is followed by 1 (R132). -/
def nextFaultId (id : Nat) : Nat := if id ≥ 65535 then 1 else id + 1

/-- The first id from `id` on that no open record holds, by at most `fuel` steps (R132). -/
def freeFaultId (held : List Nat) : Nat → Nat → Nat
  | 0, id => id
  | fuel + 1, id => if id ∈ held then freeFaultId held fuel (nextFaultId id) else id

/-- A record that must open finds the table full: it is not recorded, the count rises, and the first
refusal of the episode offers TABLE_FULL (R134). -/
def State.refuseFault (s : State) (kind : FaultKind) (subject : Nat) : State :=
  let s1 := s.modFaultCtl fun c => { c with fullCount := inc16 c.fullCount, episode := true }
  if s.faultCtl.episode then s1
  else s1.offer .major (.tableFull kind (s.faultSubject kind subject) s1.faultCtl.fullCount)

/-- A record is opened with a new id, and a subject domain enters DECIDED (R132, R133); or, with 32 records
open, it is not recorded (R134). -/
def State.openFault (s : State) (kind : FaultKind) (subject : Nat) : State × Option Nat :=
  if s.faults.length ≥ 32 then (s.refuseFault kind subject, none)
  else
    let id := freeFaultId (s.faults.map Prod.fst) 32 s.faultCtl.nextId
    let s1 := { s with faults := s.faults ++ [(id, newFault kind subject s.now)] }
    let s2 := s1.modFaultCtl fun c => { c with nextId := nextFaultId id }
    (if kind.onDomain then s2.modDomain subject fun d => { d with window := .decided id } else s2, some id)

/-! ## Links -/

/-- Record `child` is linked to open record `x`: a held notice is discarded and the reminder stopped
(R136). -/
def State.linkFault (s : State) (child x : Nat) : State :=
  (s.modFault child fun f => { f with parent := some x, held := false, reminder := none }).modFault x
    fun f => { f with children := f.children + 1 }

/-- A parent's linked open child count falls by one. -/
def State.dropChild (s : State) (x : Nat) : State := s.modFault x fun f => { f with children := f.children - 1 }

/-! ## Removal and progress -/

/-- The removal effects: the fields are discarded, the subject domain leaves DECIDED for QUIET, and a
full-table episode ends (R131). -/
def State.removeFault (s : State) (id : Nat) : State :=
  match s.fault? id with
  | none => s
  | some f =>
    let s1 := { s with faults := Table.erase s.faults id }
    let s2 := s1.modFaultCtl fun c => { c with episode := false }
    if f.kind.onDomain then
      s2.modDomain f.subject fun d => if d.window = .decided id then { d with window := .quiet } else d
    else s2

/-- A record enters CLEARING or makes progress there: last progress, a new clearing timer (R137), and the
clearing rule, which may remove it and then makes progress for its parent (R139). `fuel` bounds the climb. -/
def progressFault : Nat → Nat → State → State
  | 0, _, s => s
  | fuel + 1, id, s =>
    match s.fault? id with
    | none => s
    | some f =>
      if f.kind = .unitLost then s
      else
        let s1 := s.modFault id fun f =>
          { f with
            state := .clearing
            lastProgress := s.now
            clearing := some (s.settings.clearingLimit.toNat * 1000) }
        if f.off = 0 ∧ f.children = 0 then
          let s2 := s1.offerHeld id
          match f.parent with
          | some p => (progressFault fuel p (s2.dropChild p)).removeFault id
          | none => (s2.offerClosed id .cleared 0 0).removeFault id
        else s1

/-- An event of R137 reaches a record. -/
def State.progress (s : State) (id : Nat) : State := progressFault (s.faults.length + 1) id s

/-- A linked terminal has been restored: the off count falls and the record makes progress (R135, R137). -/
def State.faultRestore (s : State) (id : Nat) : State :=
  (s.modFault id fun f => { f with off := f.off - 1 }).progress id

/-- The cause of a FEEDER_LOSS or FLOOR_POWER record goes away: a record in OPEN enters CLEARING; one in
CLEARING is not affected (R45, R77, R137). -/
def State.causeGone (s : State) (id : Nat) : State :=
  match s.fault? id with
  | none => s
  | some f => if f.state = .opened then s.progress id else s

/-- The cause of such a record comes back: it returns to OPEN with its clearing timer stopped, and its last
progress becomes the present uptime (R138). -/
def State.returnToOpen (s : State) (id : Nat) : State :=
  s.modFault id fun f => { f with state := .opened, lastProgress := s.now, clearing := none }

/-! ## Folds and unfolds of terminals -/

/-- The attributes and fields that follow a change of state: LIT by the state table (kept in NO_CONTACT),
GASP and REPORTED cleared at LIT, the prior state absent, the last cause set at held and off states
(R82, R83). -/
def Terminal.enter (t : Terminal) (st : TState) : Terminal :=
  { t with
    state := st
    lit := match st with
      | .lit => true
      | .gasped => true
      | .restoring => true
      | .noContact => t.lit
      | _ => false
    gasp := if st = .lit then false else t.gasp
    reported := if st = .lit then false else t.reported
    prior := none
    lastCause := match st with
      | .heldDark => some .dark
      | .offDark => some .dark
      | .heldPower => some .power
      | .offPower => some .power
      | _ => t.lastCause }

/-- The time of last change (R82). -/
def Terminal.stamp (t : Terminal) (time : Uptime) : Terminal := { t with lastChange := some time }

/-- The time of the off condition as TERMINAL_OFF and TERMINAL_RESTORED carry it: that of the first dark, which a
RESTORING entry keeps beside the time of its LIGHT (R82, R103, R104, assumption 39). -/
def Terminal.offTime (t : Terminal) : Option Uptime := if t.state = .restoring then t.offSince else t.lastChange

/-- A held entry goes to its off state, keeping its time of last change; another entry keeps its state
(R94, R95). -/
def Terminal.leaveHold (t : Terminal) : Terminal :=
  match t.state with
  | .heldDark => t.enter .offDark
  | .heldPower => t.enter .offPower
  | _ => t

/-- An entry is folded into record `x`: held to off, the link set, REPORTED kept, and the record's affected
and off counts rise (R95, R135). -/
def State.foldTerm (s : State) (x addr : Nat) : State :=
  (s.modTerm addr fun t => { t.leaveHold with link := some x }).modFault x fun f =>
    { f with affected := satInc 512 f.affected, off := satInc 512 f.off }

/-- TERMINAL_OFF is offered when MASKED and FOLDED are clear, in the class of the off class, and REPORTED is
set at the offer (R103). -/
def State.offerTerminalOff (s : State) (addr : Nat) (reason : OffReason) : State :=
  match s.term? addr with
  | none => s
  | some t =>
    if t.prov.masked || t.folded then s
    else
      (s.modTerm addr fun t => { t with reported := true }).offer
        (match t.prov.offClass with | .major => .major | .minor => .minor)
        (.terminalOff addr t.prov.label t.lastCause t.offTime reason t.state)

/-- A held entry is released individually (R94). -/
def State.releaseTerm (s : State) (addr : Nat) : State :=
  (s.modTerm addr Terminal.leaveHold).offerTerminalOff addr .window

/-- An entry is unfolded at a clearing limit: TERMINAL_OFF with reason RELEASED where REPORTED was clear and
MASKED is clear, and REPORTED set unless MASKED is set (R96). -/
def State.unfoldAtLimit (s : State) (addr : Nat) : State :=
  let s1 := s.modTerm addr fun t => { t with link := none }
  match s1.term? addr with
  | none => s1
  | some t => if t.reported then s1 else s1.offerTerminalOff addr .released

/-- An entry is unfolded by FAULT_CLEAR: REPORTED set, no notice (R96). -/
def State.unfoldCleared (s : State) (addr : Nat) : State :=
  s.modTerm addr fun t => { t with link := none, reported := true }

/-! ## The clearing limit and FAULT_CLEAR -/

/-- Ids in ascending order. -/
def sortIds (ids : List Nat) : List Nat := ids.foldr insertAddr []

/-- A linked open child is unlinked at its parent's clearing limit: it becomes a top record, its notice is
offered now if it was not, and its reminder starts when it is due (R140 step 2). That FAULT_OPENED says that its
notice was not held, also where an earlier held one was discarded at the link (R136; DESIGN CHOICE,
assumption 44). -/
def State.unlinkChild (s : State) (child : Nat) : State :=
  let s1 := s.modFault child fun f => { f with parent := none }
  match s1.fault? child with
  | none => s1
  | some f => if f.announced then s1.startReminder child else s1.offerOpened child false

/-- A record reaches its clearing limit (R140). A held FAULT_OPENED goes before the FAULT_CLOSED (R126,
assumption 15), with the counts that the record held before its unfolds and unlinks (DESIGN CHOICE,
assumption 35). -/
def State.clearingLimit (s : State) (id : Nat) : State :=
  match s.fault? id with
  | none => s
  | some f =>
    let terms := s.linkedTerms id
    let kids := sortIds (s.childFaults id)
    let s1 := overKeys terms (fun a s => s.unfoldAtLimit a) s
    let s2 := overKeys kids (fun c s => s.unlinkChild c) s1
    let s3 := s2.offerHeld id
    match f.parent with
    | some p => ((s3.dropChild p).progress p).removeFault id
    | none => (s3.offerClosed id .clearingLimit terms.length kids.length).removeFault id

/-- What FAULT_CLEAR does to the terminals of one record: how many, and the state after it (R144). -/
def State.clearTerms (s : State) (id : Nat) : State × Nat :=
  let terms := s.linkedTerms id
  (overKeys terms (fun a s => s.unfoldCleared a) s, terms.length)

/-- Removes every record linked below a record, children before their parent and ascending by fault id,
with the numbers of records and terminals (R144). -/
def clearBelow : Nat → Nat → State × Nat × Nat → State × Nat × Nat
  | 0, _, acc => acc
  | fuel + 1, id, acc =>
    (sortIds (acc.1.childFaults id)).foldl
      (fun acc c =>
        let (s1, n, k) := clearBelow fuel c acc
        let (s2, j) := s1.clearTerms c
        let s3 := match (s2.fault? c).bind FaultRecord.parent with
          | some p => s2.dropChild p
          | none => s2
        (s3.removeFault c, n + 1, k + j))
      acc

/-- FAULT_CLEAR of an open record: its subtree goes, then the record itself with FAULT_CLOSED reason HOST,
and its parent takes a linked child close (R144). Answers the numbers of records and terminals: the record named
and those below it, not a parent that closes in turn (DESIGN CHOICE, assumption 36). A FAULT_OPENED that is held
carries the child count after the removals below (assumption 35), and FAULT_CLOSED carries 0 terminals released and 0
children unlinked (DESIGN CHOICE, assumption 45). -/
def State.clearFault (s : State) (id : Nat) : State × Nat × Nat :=
  match s.fault? id with
  | none => (s, 0, 0)
  | some f =>
    let (s1, n, k) := clearBelow (s.faults.length + 1) id (s, 0, 0)
    let s2 := s1.offerHeld id
    let (s3, j) := s2.clearTerms id
    let s4 := s3.offerClosed id .host 0 0
    match f.parent with
    | some p => (((s4.dropChild p).progress p).removeFault id, n + 1, k + j)
    | none => (s4.removeFault id, n + 1, k + j)

end Sys2Proof.Machine
end

