-- ==== Sys2Proof/Machine/Correlator.lean ====
section
/-! DEFINITION. Correlation windows (06): opening, extending, placing a DARK, the close with its
classification and its outcome, and the feeder loss. -/

namespace Sys2Proof.Machine

/-! ## Opening and extending -/

/-- A window opens in a domain (R110). The time is the present uptime; the opening returns the pacing level
to 1. -/
def State.openWindow (s : State) (id : Nat) : State :=
  match s.domain? id with
  | none => s
  | some d =>
    let units := s.settings.windowUnits d.fields.level
    let stop := s.now + BitVec.ofNat 32 units
    let cap := s.now + BitVec.ofNat 32 (units * s.settings.maxFactor.toNat)
    (s.modDomain id fun d => { d with window := .open s.now stop cap }).pacingReturn

/-- The end of an OPEN window after an event: the present uptime plus L, held at the cap, when that is later
than the present end (R111). -/
def extendedEnd (now : Uptime) (units : Nat) (stop cap : Uptime) : Uptime :=
  let wanted := now + BitVec.ofNat 32 units
  let held := if later wanted cap then cap else wanted
  if later held stop then held else stop

/-- A member event or child decision extends an OPEN window (R111). -/
def State.extendWindow (s : State) (id : Nat) : State :=
  s.modDomain id fun d =>
    match d.window with
    | .open start stop cap =>
        { d with window := .open start (extendedEnd s.now (s.settings.windowUnits d.fields.level) stop cap) cap }
    | .quiet => d
    | .decided _ => d

/-- A member event or child decision reaches a domain that is not DECIDED: it opens a QUIET one and extends
an OPEN one (R110, R111). -/
def State.touchWindow (s : State) (id : Nat) : State :=
  match s.windowOf id with
  | .quiet => s.openWindow id
  | .open .. => s.extendWindow id
  | .decided _ => s

/-- A GASP told as a member event: no effect where the domain or an ancestor is DECIDED (R109). -/
def State.memberEvent (s : State) (domain : Nat) : State :=
  match s.decidedFrom 3 (some domain) with
  | some _ => s
  | none => s.touchWindow domain

/-- The correlator's answer to a DARK (R87, R109). -/
inductive Placement where
  | held
  | fold (fault : Nat)
  deriving DecidableEq, Repr

/-- A DARK asks to be placed: folded into the nearest DECIDED domain's fault, from its splitter upward, or
held in the splitter's window, which opens or extends (R109). -/
def State.placeDark (s : State) (domain : Nat) : State × Placement :=
  match s.decidedFrom 3 (some domain) with
  | some x => (s, .fold x)
  | none => (s.touchWindow domain, .held)

/-! ## Who is counted -/

/-- An eligible member: MASKED and FOLDED clear, the state neither UNSEEN nor NO_CONTACT (R115). -/
def Terminal.eligible (t : Terminal) : Bool :=
  !t.prov.masked && !t.folded && decide (t.state ≠ .unseen) && decide (t.state ≠ .noContact)

/-- Shows dark without gasp (R115). -/
def Terminal.showsDark (t : Terminal) : Bool :=
  match t.state with
  | .heldDark => true
  | .offDark => true
  | _ => false

/-- Shows gasp (R115). -/
def Terminal.showsGasp (t : Terminal) : Bool :=
  match t.state with
  | .gasped => true
  | .heldPower => true
  | .offPower => true
  | _ => false

/-- The number of eligible members of a SPLITTER (R115). -/
def State.splitterM (s : State) (id : Nat) : Nat := (s.members id Terminal.eligible).length

/-- Whether a domain holds an open fault. -/
def State.holdsFault (s : State) (id : Nat) : Bool := (s.windowOf id).fault?.isSome

/-- A SPLITTER is populated when its M is above 0; a SEGMENT when one of its children is populated or holds
an open fault (R116). -/
def State.populated (s : State) (id : Nat) : Bool :=
  match s.domain? id with
  | none => false
  | some d => match d.fields.level with
    | .splitter => decide (0 < s.splitterM id)
    | .segment => (s.childDomains id).any fun c => decide (0 < s.splitterM c) || s.holdsFault c
    | .feeder => false

/-- The eligible children of a SEGMENT or FEEDER (R116). -/
def State.eligibleChildren (s : State) (id : Nat) : List Nat :=
  (s.childDomains id).filter fun c => s.populated c || s.holdsFault c

/-- The kind of the open fault that a domain holds. -/
def State.heldKind (s : State) (id : Nat) : Option FaultKind :=
  (s.windowOf id).fault?.bind fun x => (s.fault? x).map FaultRecord.kind

/-- M, N_d and N_g of a close (R115, R116). -/
def State.figures (s : State) (id : Nat) (level : Level) : Nat × Nat × Nat :=
  match level with
  | .splitter =>
    (s.splitterM id,
     (s.members id fun t => t.eligible && t.showsDark).length,
     (s.members id fun t => t.eligible && t.showsGasp).length)
  | .segment | .feeder =>
    let kids := s.eligibleChildren id
    (kids.length,
     (kids.filter fun c => s.heldKind c = some .fibreCut || s.heldKind c = some .feederLoss).length,
     (kids.filter fun c => s.heldKind c = some .powerCut).length)

/-- A share: 256 × n / m, rounded down (R117). -/
def share (n m : Nat) : Nat := 256 * n / m

/-- F and P; none when M is 0 (R117). -/
def sharesOf (m nd ng : Nat) : Option (Nat × Nat) := if m = 0 then none else some (share nd m, share ng m)

/-- Steps 2 to 6 of the decision (R119), with its step. -/
def decideByShares (c : Settings) (level : Level) (m nd ng : Nat) : Decision × Nat :=
  if m = 0 then (.none, 2)
  else if m < c.nmin level then (.individual, 3)
  else if share nd m ≥ c.tf level then (.fibreCut, 4)
  else if share ng m ≥ c.tp level then (.powerCut, 5)
  else (.individual, 6)

/-- The decision of a close, with the step that settled it: the tap evidence of a SPLITTER first (R119), a
FEEDER with a channel decides NONE at step 0 (R114, R120). -/
def State.decideClose (s : State) (d : DomainFields) (m nd ng : Nat) : Decision × Nat :=
  match d.level with
  | .splitter =>
    if (d.tap.any fun p => decide ((s.tapPoint p.1 p.2).level = .los)) && decide (1 ≤ m) then (.fibreCut, 1)
    else decideByShares s.settings .splitter m nd ng
  | .segment => decideByShares s.settings .segment m nd ng
  | .feeder =>
    if d.channel.isSome then (.none, 0) else decideByShares s.settings .feeder m nd ng

/-- The fault kind of a decision. -/
def Decision.faultKind : Decision → Option FaultKind
  | .fibreCut => some .fibreCut
  | .powerCut => some .powerCut
  | .individual => Option.none
  | .none => Option.none

/-! ## Carrying out the decision -/

/-- The decision of record `x` with subject `id` goes to the parent: offered, linked, or held with the
parent's window opened or extended (R125). -/
def State.goUp (s : State) (id x : Nat) : State :=
  match s.parentOf id with
  | none => s.offerOpened x false
  | some p =>
    match s.decidedFrom 3 (some p) with
    | some y => s.linkFault x y
    | none => (s.modFault x fun f => { f with held := true }).touchWindow p

/-- The held members of a SPLITTER, ascending. -/
def State.heldMembers (s : State) (id : Nat) : List Nat := s.members id Terminal.held

/-- The members that a recorded decision folds: held ones, and off ones that are not folded, MASKED or not
(R123). -/
def State.foldMembers (s : State) (id : Nat) : List Nat :=
  s.members id fun t => t.held || (t.state.isOff && !t.folded)

/-- Whether a SPLITTER's fault decision finds a member to fold (R121). -/
def State.findsMember (s : State) (id : Nat) : Bool :=
  !(s.members id fun t => t.held || (t.eligible && t.state.isOff)).isEmpty

/-- The held child notices of a SEGMENT or FEEDER, by fault id, in ascending child id order (R122). -/
def State.heldChildren (s : State) (id : Nat) : List Nat :=
  ((s.childDomains id).filterMap fun c => (s.windowOf c).fault?).filter fun x =>
    ((s.fault? x).map FaultRecord.held).getD false

/-- The child records that a recorded SEGMENT or FEEDER decision links: those of eligible children without a
parent fault, in ascending child id order (R124). -/
def State.linkChildren (s : State) (id : Nat) : List Nat :=
  ((s.eligibleChildren id).filterMap fun c => (s.windowOf c).fault?).filter fun x =>
    ((s.fault? x).map fun f => f.parent.isNone).getD false

/-- An individual outcome: the held members are released, or the held child notices offered (R122). -/
def State.individualOutcome (s : State) (id : Nat) (level : Level) : State :=
  match level with
  | .splitter => overKeys (s.heldMembers id) (fun a s => s.releaseTerm a) s
  | .segment | .feeder => overKeys (s.heldChildren id) (fun x s => s.offerOpened x true) s

/-- A recorded outcome: folds or links into `x`, then the hand-over to the parent (R123, R124, R125). -/
def State.faultOutcome (s : State) (id : Nat) (level : Level) (x : Nat) : State :=
  match level with
  | .splitter => (overKeys (s.foldMembers id) (fun a s => s.foldTerm x a) s).goUp id x
  | .segment | .feeder => (overKeys (s.linkChildren id) (fun c s => s.linkFault c x) s).goUp id x

/-- The fault kind that a close asks the fault table to open: a fault decision, at a SPLITTER only where it
finds a member to fold (R121). -/
def State.closeRequest (s : State) (id : Nat) (level : Level) (dec : Decision) : Option FaultKind :=
  match level with
  | .splitter => if s.findsMember id then dec.faultKind else none
  | .segment | .feeder => dec.faultKind

/-- Asks the fault table for a record, where the close wants one (R121). -/
def State.recordDecision (s : State) (id : Nat) (kind : Option FaultKind) : State × Option Nat :=
  match kind with
  | none => (s, none)
  | some k => s.openFault k id

/-- An OPEN window closes: its times are dropped, the population counted, the decision reached and carried
out (R112 to R125). None where the domain is not OPEN. -/
def State.closeWindow (s : State) (id : Nat) : Option (State × CloseReport) :=
  match s.domain? id with
  | none => none
  | some d =>
    match d.window with
    | .quiet => none
    | .decided _ => none
    | .open start stop _ =>
      let level := d.fields.level
      let s0 := s.modDomain id fun d => { d with window := .quiet }
      let (m, nd, ng) := s0.figures id level
      let (dec, step) := s0.decideClose d.fields m nd ng
      let (s1, rec) := s0.recordDecision id (s0.closeRequest id level dec)
      let report : CloseReport :=
        { level := level, start := start, stop := stop, m := m, nd := nd, ng := ng
          shares := sharesOf m nd ng, decision := dec, step := step
          recorded := none, released := 0, folded := 0, linked := 0, offered := 0 }
      match rec with
      | some x =>
        let s2 := s1.faultOutcome id level x
        let held := ((s2.fault? x).map FaultRecord.held).getD false
        some (s2, { report with
          recorded := some (x, held)
          folded := if level = .splitter then (s1.foldMembers id).length else 0
          linked := if level = .splitter then 0 else (s1.linkChildren id).length })
      | none =>
        some (s1.individualOutcome id level, { report with
          released := if level = .splitter then (s1.heldMembers id).length else 0
          offered := if level = .splitter then 0 else (s1.heldChildren id).length })

/-! ## Feeder loss -/

/-- A domain's window closes without classification (R128). -/
def State.dropWindow (s : State) (id : Nat) : State :=
  s.modDomain id fun d => if d.window.isOpen then { d with window := .quiet } else d

/-- A descendant SPLITTER of a lost feeder: an OPEN window closes and its held members fold into `y` (R128
step 2). -/
def State.loseSplitter (s : State) (y id : Nat) : State :=
  if (s.windowOf id).isOpen then
    overKeys (s.heldMembers id) (fun a s => s.foldTerm y a) (s.dropWindow id)
  else s

/-- A descendant SEGMENT of a lost feeder, then its children in ascending id order (R128 step 2). -/
def State.loseSegment (s : State) (y id : Nat) : State :=
  overKeys (s.childDomains id) (fun c s => s.loseSplitter y c) (s.dropWindow id)

/-- The descendants of a FEEDER, in ascending id order. -/
def State.descendants (s : State) (id : Nat) : List Nat :=
  Table.keysWhere s.domains fun _ d =>
    d.fields.parent = some id || (d.fields.parent.bind fun p => s.parentOf p) = some id

/-- The records of the descendants that have no parent fault, by fault id, in ascending subject id order
(R128 step 3). -/
def State.looseBelow (s : State) (id : Nat) : List Nat :=
  ((s.descendants id).filterMap fun c => (s.windowOf c).fault?).filter fun x =>
    ((s.fault? x).map fun f => f.parent.isNone).getD false

/-- FEEDER domain `id` has lost its feeder (R76, R128). -/
def State.feederLoss (s : State) (id : Nat) : State :=
  match s.faultOn .feederLoss id with
  | some x => s.returnToOpen x
  | none =>
    if s.holdsFault id then s
    else
      let (s1, rec) := s.openFault .feederLoss id
      match rec with
      | none => s1
      | some y =>
        let s2 := overKeys (s1.childDomains id) (fun c s => s.loseSegment y c) s1
        let s3 := overKeys (s2.looseBelow id) (fun x s => s.linkFault x y) s2
        s3.offerOpened y false

end Sys2Proof.Machine
end

