-- ==== Sys2Proof/Machine/Power.lean ====
section
/-! DEFINITION. Optical power (04): conversion, counting, smoothing, level states, and what their changes
tell. -/

namespace Sys2Proof.Machine

/-- What judges the points of one kind (R70, R71): thresholds, hysteresis and LOS entry count. -/
structure Judge where
  los   : Int
  low   : Int
  hyst  : Int
  entry : Nat
  deriving DecidableEq, Repr

/-- The judge of the feeder channels. -/
def Settings.feederJudge (c : Settings) : Judge := ⟨c.feederLos, c.feederLow, c.feederHyst, 3⟩
/-- The judge of the tap slots. -/
def Settings.tapJudge (c : Settings) : Judge := ⟨c.tapLos, c.tapLow, c.tapHyst, 2⟩

/-- A power value clamped to −600..+200 (R66, R68). -/
def clampPower (x : Int) : Int := max (-600) (min 200 x)

/-- A converter code as a clamped power value: floor(code × 3 / 16) − 600, the calibration added (R66). -/
def convertCode (code : Nat) (calibration : Int) : Int :=
  clampPower (((code * 3 / 16 : Nat) : Int) - 600 + calibration)

/-- One smoothing step from an average toward a value (R69). -/
def smoothStep (k : Nat) (average p : Int) : Int :=
  let d := p - average
  let step := d.tdiv (2 ^ k)
  if d ≠ 0 ∧ step = 0 then (if 0 < d then average + 1 else average - 1) else average + step

/-- The average after a value is taken in (R69). -/
def smooth (k : Nat) (average : Option Int) (p : Int) : Int :=
  match average with
  | none => p
  | some a => smoothStep k a p

/-- The consecutive-low count after a value is taken in (R71). -/
def lowCount (j : Judge) (lows : Nat) (p : Int) : Nat := if p < j.los then min (lows + 1) j.entry else 0

/-- The state of a first judgement, from the average (R72). -/
def firstLevel (j : Judge) (average : Int) : LevelState :=
  if average < j.los then .los else if average < j.low then .low else .normal

/-- The level state after a value: the first row of R73 that applies. `first`: this value completes the
first judgement (R72). -/
def nextLevel (j : Judge) (first : Bool) (level : LevelState) (lows : Nat) (average : Int) : LevelState :=
  match level with
  | .unknown => if first then firstLevel j average else .unknown
  | .normal =>
    if lows = j.entry then .los else if average < j.low then .low else .normal
  | .low =>
    if lows = j.entry then .los else if j.low + j.hyst ≤ average then .normal else .low
  | .los =>
    if lows < j.entry ∧ j.los + j.hyst ≤ average then
      if j.low + j.hyst ≤ average then .normal else .low
    else .los

/-- A clamped value is taken in at a point: counted, averaged, judged (R66, R68). -/
def Point.takeIn (pt : Point) (j : Judge) (k : Nat) (first : Bool) (p : Int) : Point :=
  let lows := lowCount j pt.lows p
  let average := smooth k pt.average p
  ⟨nextLevel j first pt.level lows average, some average, some p, lows⟩

/-- The notices of a bound point's change of level state: an entry to LOW (not from LOS) or LOS (R74), a
return to NORMAL from LOW or LOS (R75). -/
def powerNotice (subject : PowerSubject) (domain : Nat) (before after : Point) : Option NoticeBody :=
  let average := after.average.getD 0
  let last := after.last.getD 0
  match before.level, after.level with
  | .unknown, .low => some (.powerLow subject domain .low .unknown average last)
  | .unknown, .los => some (.powerLow subject domain .los .unknown average last)
  | .normal, .low => some (.powerLow subject domain .low .normal average last)
  | .normal, .los => some (.powerLow subject domain .los .normal average last)
  | .low, .los => some (.powerLow subject domain .los .low average last)
  | .low, .normal => some (.levelRecovered subject domain .low average last)
  | .los, .normal => some (.levelRecovered subject domain .los average last)
  | .unknown, .unknown => none
  | .unknown, .normal => none
  | .normal, .unknown => none
  | .normal, .normal => none
  | .low, .unknown => none
  | .low, .low => none
  | .los, .unknown => none
  | .los, .low => none
  | .los, .los => none

/-- The class of a power notice (R74, R75): LEVEL_RECOVERED in INFO, FEEDER_LOW in MAJOR, TAP_LOW in
MINOR. -/
def powerClass (b : NoticeBody) : NoticeClass :=
  match b with
  | .powerLow (.feeder _) .. => .major
  | .powerLow (.tap ..) .. => .minor
  | _ => .info

/-- The notice of a change at a bound point is offered; an unbound point offers nothing (R74, R75). -/
def State.offerPower (s : State) (subject : PowerSubject) (domain : Option Nat) (before after : Point) : State :=
  match domain.bind fun d => powerNotice subject d before after with
  | none => s
  | some b => s.offer (powerClass b) b

/-- A reading of a tap slot (R68): −32768 is no reading; another is clamped and taken in, the first one
ending UNKNOWN (R72). -/
def State.tapReading (s : State) (floor : Nat) (tap : Tap) (reading : Word16) : State :=
  if reading = 0x8000#16 then s
  else
    let before := s.tapPoint floor tap
    let after := before.takeIn s.settings.tapJudge s.settings.smoothing.toNat true (clampPower reading.toInt)
    ({ s with taps := Table.put s.taps (tapIndex floor tap) after }).offerPower (.tap floor tap)
      (s.tapLink floor tap) before after

/-- A tap trailer: tap A, then tap B (R39, R68). -/
def State.tapTrailer (s : State) (floor : Nat) (a b : Word16) : State :=
  (s.tapReading floor .a a).tapReading floor .b b

/-- A feeder channel's record after a sample: last code, rail counter, samples, and the value taken in
(R66, R67, R72). -/
def Feeder.sample (f : Feeder) (c : Settings) (channel : Nat) (code : BitVec 12) : Feeder :=
  { point := f.point.takeIn c.feederJudge c.smoothing.toNat (decide (2 ≤ f.samples))
      (convertCode code.toNat (c.calibration channel))
    samples := min (f.samples + 1) 3
    code := some code
    rails := if code = 0#12 ∨ code = 0xFFF#12 then inc16 f.rails else f.rails }

/-- What a bound feeder channel's change of level state tells: its entry to LOS is a feeder loss (R76), its
leaving of LOS tells the fault table (R77). -/
def State.feederTold (s : State) (domain : Option Nat) (before after : LevelState) : State :=
  match domain with
  | none => s
  | some d =>
    if before ≠ .los ∧ after = .los then s.feederLoss d
    else if before = .los ∧ after ≠ .los then
      match s.faultOn .feederLoss d with
      | none => s
      | some x => s.causeGone x
    else s

/-- One sample of a feeder channel (R66): the record, then the notice, then what the neighbours are told. R76
gives that order for the entry to LOS; a LEVEL_RECOVERED goes first too (DESIGN CHOICE, assumption 34). -/
def State.feederSample (s : State) (channel : Nat) (code : BitVec 12) : State :=
  let before := s.feeder channel
  let after := before.sample s.settings channel code
  let bound := s.channelDomain channel
  (({ s with feeders := Table.put s.feeders channel after }).offerPower (.feeder channel) bound before.point
    after.point).feederTold bound before.point.level after.point.level

end Sys2Proof.Machine
end

