-- ==== Sys2Proof/Machine/Fmus.lean ====
section
/-! DEFINITION. The riser frames (R25, R182, R183) and the FMU side of the bus (02 2.2, 2.3). -/

namespace Sys2Proof.Machine

/-! ## Characters -/

/-- The parity bit of a byte: the nine bits together hold an odd number of ones (R24). -/
def oddParity (b : Byte) : Bool := decide (((List.range 8).filter b.getLsbD).length % 2 = 0)

/-- A byte as it is sent on the pair (R24). -/
def sentChar (b : Byte) : RxChar := ⟨b, oddParity b, true⟩

/-- A character in error: even parity, or its stop bit missing (R24). -/
def badChar (c : RxChar) : Bool := decide (c.parity ≠ oddParity c.data) || !c.stop

/-! ## Command frames -/

/-- The address byte: mode in bits 7..6, floor field in bits 5..0 (R25, R182). A CLEAR to a group has the
group in the upper three bits of the field; the bits that no FMU looks at are sent as 0 (assumption 23). -/
def Order.addressByte : Order → Byte
  | .poll floor _ => BitVec.ofNat 8 (floor % 64)
  | .status floor => BitVec.ofNat 8 (floor % 64)
  | .clear .all => 0xC0#8
  | .clear (.group g) => 0x80#8 ||| BitVec.ofNat 8 (g * 8 % 64)
  | .clear (.one floor) => 0x40#8 ||| BitVec.ofNat 8 (floor % 64)

/-- The command byte: the sequence bit in bit 7, clear for STATUS and CLEAR (R182, R183). -/
def Order.commandByte : Order → Byte
  | .poll _ seq => if seq then 0x81#8 else 0x01#8
  | .status _ => 0x02#8
  | .clear _ => 0x03#8

/-- A command frame (R25, R182). -/
def Order.frame (o : Order) : List Byte :=
  [o.addressByte, o.commandByte, crc8 [o.addressByte, o.commandByte]]

/-- The floor of a POLL or STATUS. -/
def Order.floor? : Order → Option Nat
  | .poll floor _ => some floor
  | .status floor => some floor
  | .clear _ => none

/-- What an FMU acts on (R26, R27). -/
inductive FmuAct where
  | poll (seq : Bool)
  | status
  | clear
  deriving DecidableEq, Repr

/-- Whether an address byte names an FMU's floor (R26). -/
def addressNames (address : Byte) (floor : Nat) : Bool :=
  let mode := (address.extractLsb' 6 2).toNat
  let field := (address.extractLsb' 0 6).toNat
  if mode = 0 then field = floor
  else if mode = 1 then field = floor
  else if mode = 2 then field / 8 = floor / 8
  else true

/-- What the FMU of a floor does on an undamaged frame: nothing unless it is three characters with a good
CRC-8, names the floor, and carries a command that its mode allows (R25, R26, R27). -/
def fmuAct (frame : List Byte) (floor : Nat) : Option FmuAct :=
  match frame with
  | [address, command, check] =>
    let unicast := (address.extractLsb' 6 2).toNat = 0
    if crc8 [address, command] ≠ check ∨ addressNames address floor = false then none
    else match (command.extractLsb' 0 7).toNat with
      | 1 => if unicast then some (.poll command.msb) else none
      | 2 => if unicast then some .status else none
      | 3 => if unicast then none else some .clear
      | _ => none
  | _ => none

/-! ## What an FMU does -/

/-- A record's three bytes: kind in bits 7..4, port in bits 3..0, age in ms saturating at 65535 (R29,
R182). -/
def FmuRecord.bytes (r : FmuRecord) : List Byte :=
  let kind : Nat := match r.kind with | .gasp => 1 | .dark => 2 | .light => 3 | .unitGasp => 4
  BitVec.ofNat 8 (kind * 16 + r.port % 16) :: split16 (BitVec.ofNat 16 (min r.age 65535))

/-- The records of an FMU's answer to a POLL with sequence bit `b`, and the FMU after it (R29). -/
def Fmu.answerPoll (f : Fmu) (b : Bool) : Fmu × List FmuRecord :=
  match f.held with
  | some (h, records) =>
    if h = b then (f, records)
    else ({ f with held := some (b, f.queue.take 6), queue := f.queue.drop 6 }, f.queue.take 6)
  | none => ({ f with held := some (b, f.queue.take 6), queue := f.queue.drop 6 }, f.queue.take 6)

/-- A frame closed by its CRC-8 (R25). -/
def closeFrame (bytes : List Byte) : List Byte := bytes ++ [crc8 bytes]

/-- The event reply of an FMU (R29, R182). -/
def eventReply (floor : Nat) (b more : Bool) (records : List FmuRecord) (tapA tapB : Word16) : List Byte :=
  closeFrame ([BitVec.ofNat 8 (floor % 64),
    0x10#8 ||| (if b then 1#8 else 0#8) ||| (if more then 2#8 else 0#8),
    BitVec.ofNat 8 records.length] ++ records.flatMap FmuRecord.bytes ++ split16 tapA ++ split16 tapB)

/-- The map reply of an FMU (R30, R182). -/
def mapReply (floor : Nat) (light : BitVec 16) (held : Option Bool) (tapA tapB : Word16) : List Byte :=
  closeFrame ([BitVec.ofNat 8 (floor % 64),
    0x20#8 ||| (match held with | none => 2#8 | some true => 1#8 | some false => 0#8)] ++
    split16 light ++ split16 tapA ++ split16 tapB)

/-- An FMU that acts on CLEAR: queue and held reply discarded, DARK with age 0 for every dark port (R31). -/
def Fmu.clear (f : Fmu) : Fmu :=
  { f with
    queue := ((List.range 16).filter fun p => !f.light.getLsbD p).map fun p => ⟨.dark, p, 0⟩
    held := none }

/-- An FMU hears a command frame: the FMU after it, and its reply (empty where there is none; R29 to R31). -/
def Fmu.hear (f : Fmu) (frame : List Byte) (tapA tapB : Word16) : Fmu × List Byte :=
  match fmuAct frame f.floor with
  | none => (f, [])
  | some (.poll b) =>
    let (g, records) := f.answerPoll b
    (g, eventReply f.floor b (!g.queue.isEmpty) records tapA tapB)
  | some .status => (f, mapReply f.floor f.light (f.held.map Prod.fst) tapA tapB)
  | some .clear => (f.clear, [])

/-- The tap readings that an FMU sends: those the world gives it, else none for either tap (R29, R30, R39). -/
def tapsOf (h : Hearing) (fmu : Nat) : Word16 × Word16 :=
  match h.taps.find? fun r => decide (r.fmu.toNat = fmu) with
  | some r => (r.tapA, r.tapB)
  | none => (0x8000#16, 0x8000#16)

/-- What a command frame comes to at one FMU (R25). An FMU that ignores the line until it goes quiet ignores the frame;
one that hears the address byte in error ignores it and everything after it until then; one that hears a later character
in error or a CRC-8 that does not match ignores the frame; any other hears it. An FMU whose hold-up reserve is spent
(R32) goes on answering until it starts again, since no command tells of its stop (DESIGN CHOICE, assumption 48). -/
def hearAt (h : Hearing) (frame : List Byte) (e : Nat × Fmu) : Fmu × List Byte :=
  if e.2.deaf then (e.2, [])
  else if h.addressBadAt.any fun d => d.toNat = e.1 then ({ e.2 with deaf := true }, [])
  else if h.damagedAt.any fun d => d.toNat = e.1 then (e.2, [])
  else e.2.hear frame (tapsOf h e.1).1 (tapsOf h e.1).2

/-- What the line does to an FMU: where it has gone quiet, the FMU hears again (R25). -/
def Fmu.onLine (quiet : Bool) (f : Fmu) : Fmu := { f with deaf := f.deaf && !quiet }

/-- The line as every FMU finds it (R25). -/
def fmusOnLine (quiet : Bool) (fmus : Table Fmu) : Table Fmu := fmus.map fun e => (e.1, e.2.onLine quiet)

/-- Every FMU that hears the frame undamaged acts on it; the replies that go on the pair together, one for each
FMU that answers (R25, R26). -/
def hearAll (fmus : Table Fmu) (frame : List Byte) (h : Hearing) : Table Fmu × List (List RxChar) :=
  (fmus.map fun e => (e.1, (hearAt h frame e).1),
    (fmus.map fun e => ((hearAt h frame e).2).map sentChar).filter fun reply => !reply.isEmpty)

/-- An FMU records an event at age 0: a port's DARK or LIGHT also changes its light map (R28, R30). -/
def Fmu.record (f : Fmu) (kind : EventKind) (port : Nat) : Fmu :=
  { f with
    queue := f.queue ++ [⟨kind, port, 0⟩]
    light := match kind with
      | .dark => f.light &&& ~~~ (BitVec.twoPow 16 port)
      | .light => f.light ||| BitVec.twoPow 16 port
      | .gasp => f.light
      | .unitGasp => f.light }

/-- A millisecond passes for a record: its age rises, held at 65535 (R28, R29). -/
def FmuRecord.older (r : FmuRecord) : FmuRecord := { r with age := satInc 65535 r.age }

/-- A millisecond passes at an FMU. -/
def Fmu.older (f : Fmu) : Fmu :=
  { f with
    queue := f.queue.map FmuRecord.older
    held := f.held.map fun h => (h.1, h.2.map FmuRecord.older) }

/-! ## Reading a reply -/

/-- The failures of R34. -/
inductive ReplyFailure where
  | parity | check | wrongAddress
  deriving DecidableEq, Repr

/-- A record as a reply carries it: the kind, none when unknown, its port and its age in ms (R37, R182). -/
structure WireRecord where
  kind : Option EventKind
  port : Nat
  age  : Nat
  deriving DecidableEq, Repr

/-- A good reply's content. -/
inductive GoodReply where
  | events (more : Bool) (records : List WireRecord) (tapA tapB : Word16)
  | map (light : BitVec 16) (held : Option Bool) (tapA tapB : Word16)
  deriving DecidableEq, Repr

/-- One record's bytes (R182). -/
def readRecord (head hi lo : Byte) : WireRecord :=
  { kind := match (head.extractLsb' 4 4).toNat with
      | 1 => some .gasp
      | 2 => some .dark
      | 3 => some .light
      | 4 => some .unitGasp
      | _ => none
    port := (head.extractLsb' 0 4).toNat
    age := (join16 hi lo).toNat }

/-- The records and the tap trailer after the record count of an event reply, its CRC-8 taken off: exactly
`n` records and four bytes (R183 check 5). -/
def readRecords : Nat → List Byte → Option (List WireRecord × Word16 × Word16)
  | 0, [a1, a0, b1, b0] => some ([], join16 a1 a0, join16 b1 b0)
  | 0, _ => none
  | n + 1, k :: hi :: lo :: rest =>
    (readRecords n rest).map fun r => (readRecord k hi lo :: r.1, r.2)
  | _ + 1, _ => none

/-- Checks 4 and 5 of R34 for a POLL with sequence bit `b` (R183), on the bytes after the echoed floor and
without the CRC-8. -/
def readEvents (b : Bool) : List Byte → Option GoodReply
  | code :: count :: rest =>
    if code.extractLsb' 4 4 = 1#4 ∧ code.extractLsb' 2 2 = 0#2 ∧ code.getLsbD 0 = b ∧ count.toNat ≤ 6 then
      (readRecords count.toNat rest).map fun r => .events (code.getLsbD 1) r.1 r.2.1 r.2.2
    else none
  | _ => none

/-- Checks 4 and 5 of R34 for a STATUS (R183). -/
def readMap : List Byte → Option GoodReply
  | [code, l1, l0, a1, a0, b1, b0] =>
    if code.extractLsb' 4 4 = 2#4 ∧ code.extractLsb' 2 2 = 0#2 ∧ code.extractLsb' 0 2 ≠ 3#2 then
      some (.map (join16 l1 l0)
        (if code.getLsbD 1 then none else some (code.getLsbD 0)) (join16 a1 a0) (join16 b1 b0))
    else none
  | _ => none

/-- Checks 4 and 5 of R34 for the order of the attempt (R183). -/
def Order.readReply (o : Order) (rest : List Byte) : Option GoodReply :=
  match o with
  | .poll _ b => readEvents b rest
  | .status _ => readMap rest
  | .clear _ => none

/-- The five checks of a reply, in order, for the order of the attempt (R34, R183). The CRC-8 covers every byte
but the last, and the echoed floor is the first byte, also where the reply is one byte long. -/
def checkReply (o : Order) (chars : List RxChar) : Except ReplyFailure GoodReply :=
  if chars.any badChar then .error .parity
  else match chars.map RxChar.data with
    | [] => .error .check
    | first :: rest =>
      if (first :: rest).getLast? ≠ some (crc8 (first :: rest).dropLast) then .error .check
      else if o.floor?.map (fun floor => BitVec.ofNat 8 (floor % 64)) ≠ some first then .error .wrongAddress
      else match o.readReply rest.dropLast with
        | some r => .ok r
        | none => .error .check

end Sys2Proof.Machine
end

