-- ==== Sys2Proof/Machine/Scheduler.lean ====
section
/-! DEFINITION. The poll scheduler (03): visits, the cycle, sweeps, and what it starts next. -/

namespace Sys2Proof.Machine

/-- The gap of a pacing level in milliseconds (03 3.2). -/
def gapOfLevel (level : Nat) : Nat :=
  match level with
  | 1 => 0
  | 2 => 20
  | 3 => 50
  | 4 => 100
  | 5 => 200
  | 6 => 400
  | 7 => 700
  | _ => 1000

/-- The gap after a cycle: at least 20 ms when the cycle started no transaction (R54). -/
def gapAfter (level : Nat) (used : Bool) : Nat := if used then gapOfLevel level else max 20 (gapOfLevel level)

/-- A transaction begins: its command waits for the line (R24, R33). -/
def State.startTxn (s : State) (o : Order) : State :=
  s.modRiser fun r => { r with txn := some ⟨o, 0, .toSend, 0, false⟩ }

/-- The POLL of a floor, carrying its unit's sequence bit (R36). -/
def State.pollOrder (s : State) (floor : Nat) : Order :=
  .poll floor (((s.unit? floor).bind FloorUnit.seq).getD false)

/-- The first command of a visit: STATUS when the baseline pending mark is set, POLL when it is clear
(R51). -/
def State.visitOrder (s : State) (floor : Nat) : Order :=
  if ((s.unit? floor).map FloorUnit.baseline).getD false then .status floor else s.pollOrder floor

/-- A visit to a floor begins with one transaction, and the floor becomes the last polled one (R51). -/
def State.startVisit (s : State) (floor : Nat) : State :=
  (s.modSched fun c => { c with lastPolled := some floor, visit := some ⟨floor, 0, false⟩ }).startTxn
    (s.visitOrder floor)

/-- An extra poll of the visit in progress (R52). -/
def State.startExtra (s : State) (v : Visit) : State :=
  (s.modSched fun c =>
    { c with lastPolled := some v.floor, visit := some ⟨v.floor, v.extra + 1, false⟩ }).startTxn
    (s.pollOrder v.floor)

/-- A unit visitable in a cycle of this count: a SILENT one only when the count is 0 (R50). -/
def FloorUnit.visitable (u : FloorUnit) (count : Nat) : Bool :=
  decide (u.contact ≠ .silent) || decide (count = 0)

/-- The search of the cycle: the first visitable floor from the cycle position on (R50), but for a floor that
was provisioned at the cycle position in this cycle (R53, assumption 38). -/
def State.cycleFind (s : State) : Option Nat :=
  s.sched.pos.bind fun p =>
    (s.units.find? fun e =>
      decide (p ≤ e.1) && decide (s.sched.skip ≠ some e.1) && e.2.visitable s.sched.count).map Prod.fst

/-- The next visit of the cycle, or its end: the count rises and the gap begins, and a gap of 0 ms lets the
next cycle begin at once (R50, R54). `fuel` 2 suffices: the second cycle, if it starts nothing, has a gap of
20 ms. -/
def State.cycleStep : Nat → State → State
  | 0, s => s
  | fuel + 1, s =>
    match s.cycleFind with
    | some f =>
      (s.modSched fun c =>
        { c with pos := if f ≥ 63 then none else some (f + 1), cycleUsed := true, cycleWaits := false }).startVisit f
    | none =>
      let gap := gapAfter s.sched.level s.sched.cycleUsed
      let s1 := s.modSched fun c => { c with count := (c.count + 1) % 8, pos := none, cycleWaits := false }
      if gap = 0 then
        State.cycleStep fuel (s1.modSched Sched.newCycle)
      else s1.modSched fun c => { c with gap := some gap }

/-- The floors from one to another, wrapping from 63 to 0 (R58). -/
def sweepFloors (next final : Nat) : List Nat :=
  (List.range ((final + 64 - next) % 64 + 1)).map fun i => (next + i) % 64

/-- A sweep that begins now: from the floor after the last polled floor round to it, or 0 to 63 (R58). -/
def State.newSweep (s : State) (resume : Option Nat) : Sweep :=
  match s.sched.lastPolled with
  | some f => ⟨some ((f + 1) % 64), f, resume, false⟩
  | none => ⟨some 0, 63, resume, false⟩

/-- The next floor of a sweep whose unit is in contact (R59). -/
def State.sweepFind (s : State) (w : Sweep) : Option Nat :=
  w.next.bind fun n => (sweepFloors n w.final).find? fun f =>
    ((s.unit? f).map fun u => decide (u.contact ≠ .silent)).getD false

/-- The next visit of a sweep, or its end: another sweep when the line is low and this one started a
transaction, else the cycle resumes (R59, R60). `fuel` 2 suffices: a sweep that starts nothing is followed by
none. -/
def State.sweepStep : Nat → Sweep → State → State
  | 0, w, s => (s.modSched fun c => { c with sweep := none, pos := w.resume }).cycleStep 2
  | fuel + 1, w, s =>
    match s.sweepFind w with
    | some f =>
      (s.modSched fun c =>
        { c with
          sweep := some { w with next := if f = w.final then none else some ((f + 1) % 64), started := true }
          }).startVisit f
    | none =>
      if s.attnLow && w.started then State.sweepStep fuel (s.newSweep w.resume) s
      else (s.modSched fun c => { c with sweep := none, pos := w.resume }).cycleStep 2

/-- With the bus free and the part not HALTED, the scheduler starts what comes next: a pending CLEAR (R61), a
wanted sweep (R58), an extra poll (R52), the sweep in progress (R59), or, with no gap running, the cycle
(R50). A CLEAR that is pending when the last transaction of a sweep ends goes out before the sweep ends: the line is
looked at after it (R60; DESIGN CHOICE, assumption 55). -/
def State.schedule (s : State) : State :=
  if s.halted || s.riser.txn.isSome then s
  else match s.sched.pendingClear with
    | some scope => (s.modSched fun c => { c with visit := none }).startTxn (.clear scope)
    | none =>
      if s.sched.sweepWanted then
        State.sweepStep 2 (s.newSweep s.sched.pos)
          (s.modSched fun c => { c with sweepWanted := false, visit := none })
      else match s.sched.visit.filter Visit.again with
        | some v => s.startExtra v
        | none =>
          let s1 := s.modSched fun c => { c with visit := none }
          match s.sched.sweep with
          | some w => State.sweepStep 2 w s1
          | none => if s.sched.gap.isSome then s1 else s1.cycleStep 2

/-- An attention assertion is told to the scheduler: the pacing level returns to 1 (R55), and a sweep is
wanted unless one is in progress, which ends the visit of the cycle (R52, R58, R59). Where the return ended a gap,
the next cycle waits for that sweep (R54). -/
def State.tellAttention (s : State) : State :=
  let s1 := s.pacingReturn
  if s.sched.sweep.isSome then s1
  else s1.modSched fun c =>
    { c with sweepWanted := true, visit := none, cycleWaits := c.cycleWaits || s.sched.gap.isSome }

/-- The attention mark, or the line low, is told and the mark cleared; it is set again at once while the line
is low (R41). -/
def State.tellMark (s : State) : State :=
  let low := s.attnLow
  if s.riser.mark || low then (s.modRiser fun r => { r with mark := low }).tellAttention else s

/-- A transaction ends: the visit goes on only for a good event reply with the more flag, within 3 extra
polls (R52), and attention is told (R41). -/
def State.endTxn (s : State) (more : Bool) : State :=
  ((s.modRiser fun r => { r with txn := none }).modSched fun c =>
    { c with visit := (c.visit.filter fun v => more && decide (v.extra < 3)).map fun v => { v with again := true } }
    ).tellMark

end Sys2Proof.Machine
end

