-- ==== Sys2Proof/Machine/Terminals.lean ====
section
/-! DEFINITION. The terminal state machine (05): events, timers, silence, baseline; and the learned table
(01 1.3). -/

namespace Sys2Proof.Machine

/-! ## Notices with a terminal as subject -/

/-- A WATCH notice is offered for an entry with WATCH set and MASKED clear (R105). -/
def State.offerWatch (s : State) (addr : Nat) (kind : WatchKind) (time : Uptime) : State :=
  match s.term? addr with
  | none => s
  | some t =>
    if t.prov.watch && !t.prov.masked then s.offer .info (.watch addr t.prov.label kind t.state time) else s

/-- TERMINAL_RESTORED of an entry as it stood before it entered LIT: offered when it was not folded, was
REPORTED, has notify-on-restore and is not MASKED (R104). After a hold-down its off time is that of the first dark
(DEDUCED, assumption 39). -/
def State.offerRestored (s : State) (addr : Nat) (before : Terminal) (path : RestorePath) : State :=
  if !before.folded && before.reported && before.prov.notify && !before.prov.masked then
    s.offer .info (.terminalRestored addr before.prov.label before.lastCause before.offTime path before.flaps)
  else s

/-! ## GASP, DARK and LIGHT -/

/-- A count of the terminal table rises (R84). -/
def State.countDuplicate (s : State) : State := s.modTally fun c => { c with duplicates := inc16 c.duplicates }
/-- A late gasp is counted (R89). -/
def State.countLateGasp (s : State) : State := s.modTally fun c => { c with lateGasps := inc16 c.lateGasps }
/-- A transient is counted (R88). -/
def State.countTransient (s : State) : State := s.modTally fun c => { c with transients := inc16 c.transients }
/-- An absorbed confirmation is counted (R102). -/
def State.countAbsorbed (s : State) : State := s.modTally fun c => { c with absorbed := inc16 c.absorbed }

/-- The full gasp hold in milliseconds (R90, R93). -/
def State.gaspHoldMs (s : State) : Nat := s.settings.gaspHold.toNat
/-- The full restore hold-down in milliseconds (R91, R93). -/
def State.holdDownMs (s : State) : Nat := s.settings.holdDown.toNat * 1000

/-- GASP taken by a static entry (R86, R89). -/
def State.takeGasp (s : State) (addr : Nat) (t : Terminal) (time : Uptime) : State :=
  match t.state with
  | .unseen | .lit =>
    (s.modTerm addr fun t =>
      { (t.enter .gasped).stamp time with gasp := true, gaspHold := some s.gaspHoldMs }).memberEvent t.prov.domain
  | .gasped => (s.modTerm addr fun t => { t with gaspHold := some s.gaspHoldMs }).memberEvent t.prov.domain
  | .heldDark =>
    (s.modTerm addr fun t => { (t.enter .heldPower).stamp time with gasp := true }).memberEvent t.prov.domain
  | .heldPower | .offPower | .noContact => s.countDuplicate
  | .offDark | .restoring => s.countLateGasp

/-- A dark off condition begins: the correlator places the entry, which is held or folded; gasp-backed when
it was GASPED (R87). -/
def State.darkFrom (s : State) (addr : Nat) (t : Terminal) (gasped : Bool) (time : Uptime) : State :=
  let (s1, answer) := s.placeDark t.prov.domain
  match answer with
  | .held =>
    s1.modTerm addr fun t =>
      { (t.enter (if gasped then .heldPower else .heldDark)).stamp time with gaspHold := none }
  | .fold x =>
    (s1.modTerm addr fun t =>
      { (t.enter (if gasped then .offPower else .offDark)).stamp time with gaspHold := none }).foldTerm x addr

/-- A flap: a DARK in RESTORING returns the entry to the off state it left, and its time of last change to that of
its first dark (R82, R92, assumption 39). -/
def State.flap (s : State) (addr : Nat) (t : Terminal) (time : Uptime) : State :=
  (s.modTerm addr fun u =>
    { u.enter (t.prior.getD .offDark) with
      holdDown := none, offSince := none, lastChange := u.offSince, flaps := inc8 u.flaps }).offerWatch addr
      (.flap (inc8 t.flaps)) time

/-- DARK taken by a static entry (R87, R89, R92). -/
def State.takeDark (s : State) (addr : Nat) (t : Terminal) (time : Uptime) : State :=
  match t.state with
  | .unseen | .lit => s.darkFrom addr t false time
  | .gasped => s.darkFrom addr t true time
  | .restoring => s.flap addr t time
  | .heldDark | .heldPower | .offDark | .offPower | .noContact => s.countDuplicate

/-- LIGHT taken by a static entry (R88, R89). An off entry that starts its hold-down keeps the time of its first
dark beside the LIGHT's time (assumption 39). -/
def State.takeLight (s : State) (addr : Nat) (t : Terminal) (time : Uptime) : State :=
  match t.state with
  | .unseen => s.modTerm addr fun t => (t.enter .lit).stamp time
  | .heldDark | .heldPower =>
    ((s.modTerm addr fun t => (t.enter .lit).stamp time).countTransient).offerWatch addr
      (.transient t.state) time
  | .offDark | .offPower =>
    s.modTerm addr fun u =>
      { (u.enter .restoring).stamp time with
        prior := some u.state, holdDown := some s.holdDownMs, offSince := u.lastChange }
  | .lit | .gasped | .restoring | .noContact => s.countDuplicate

/-- The off or held state that a confirmation compares: the prior state in NO_CONTACT (R102). -/
def Terminal.darkNow (t : Terminal) : Bool :=
  match t.state with
  | .noContact => (t.prior.map fun p => p.isHeld || p.isOff).getD false
  | st => st.isHeld || st.isOff

/-- A record that confirms the present state of an entry (R102). -/
def Terminal.confirms (t : Terminal) (kind : EventKind) : Bool :=
  match kind with
  | .dark => t.darkNow
  | .light => decide (t.state = .lit)
  | .gasp => false
  | .unitGasp => false

/-! ## The learned table -/

/-- A learned entry's effect of one more event: last kind, age 0, heard (R10). -/
def Learned.refresh (e : Learned) (kind : EventKind) : Learned := { e with last := kind, age := 0, heard := true }

/-- An unprovisioned event (R10, R11). -/
def State.takeUnprovisioned (s : State) (floor addr : Nat) (resync : Bool) (kind : EventKind) (time : Uptime) :
    State :=
  match Table.get? s.learned addr with
  | some e =>
    let s1 := s.modLearned fun l => Table.modify l addr fun e => e.refresh kind
    if resync && decide (e.last = kind) then s1 else s1.offer .info (.unprovisioned addr kind time true)
  | none =>
    if s.learned.length < 64 then
      (s.modLearned fun l => l ++ [(addr, ⟨floor, s.now, kind, 0, true⟩)]).offer .info
        (.unprovisioned addr kind time true)
    else
      (s.modTally fun c => { c with learnedFull := inc16 c.learnedFull }).offer .info
        (.unprovisioned addr kind time false)

/-- One aging tick of an entry; none when it is removed (R12). -/
def Learned.tick (e : Learned) : Option Learned :=
  if e.heard then some { e with heard := false }
  else if e.age < 3 then some { e with age := e.age + 1 }
  else none

/-- The learned table ages (R12). -/
def State.ageLearned (s : State) : State :=
  s.modLearned fun l => l.filterMap fun e => e.2.tick.map fun r => (e.1, r)

/-! ## One event record -/

/-- A GASP, DARK or LIGHT record of a good reply reaches the terminal table (R85): the static table first,
then absorption under a resync pending mark, then the rule of its kind. A UNIT_GASP never comes here. -/
def State.takeEvent (s : State) (floor : Nat) (resync : Bool) (kind : EventKind) (port : Nat) (time : Uptime) :
    State :=
  let addr := addrOf floor port
  match s.term? addr with
  | none => s.takeUnprovisioned floor addr resync kind time
  | some t =>
    if resync && t.confirms kind then s.countAbsorbed
    else match kind with
      | .gasp => s.takeGasp addr t time
      | .dark => s.takeDark addr t time
      | .light => s.takeLight addr t time
      | .unitGasp => s

/-! ## Restores and timers -/

/-- The restore steps 1 to 3 of an entry that enters LIT from an off condition (R91, R99): a folded entry
leaves its fault as a restore, another may offer TERMINAL_RESTORED. -/
def State.restoreTerm (s : State) (addr : Nat) (t : Terminal) (path : RestorePath) : State :=
  let s1 := s.modTerm addr fun t => { (t.enter .lit).stamp s.now with link := none, holdDown := none, offSince := none }
  match t.link with
  | some x => s1.faultRestore x
  | none => s1.offerRestored addr t path

/-- A due gasp hold expires (R90). -/
def State.gaspHoldExpires (s : State) (addr : Nat) : State :=
  match s.term? addr with
  | none => s
  | some t =>
    if t.state = .gasped ∧ t.gaspHold = some 0 then
      (s.modTerm addr fun t =>
        { (t.enter .lit).stamp s.now with
          gaspHold := none, gaspRecovered := inc8 t.gaspRecovered }).offerWatch addr
          (.gaspRecovered (inc8 t.gaspRecovered)) s.now
    else s

/-- A due hold-down expires (R91). -/
def State.holdDownExpires (s : State) (addr : Nat) : State :=
  match s.term? addr with
  | none => s
  | some t =>
    if t.state = .restoring ∧ t.holdDown = some 0 then s.restoreTerm addr t .holdDown else s

/-! ## FMU silence -/

/-- The prior state that NO_CONTACT saves: the off state that RESTORING saved, else the state left (R82). -/
def Terminal.savedState (t : Terminal) : TState :=
  match t.state with
  | .restoring => t.prior.getD .offDark
  | st => st

/-- An entry enters NO_CONTACT (R97). -/
def Terminal.loseContact (t : Terminal) (now : Uptime) : Terminal :=
  { (t.enter .noContact).stamp now with
    prior := some t.savedState, gaspHold := none, holdDown := none, offSince := none }

/-- The no-contact effects on one entry (R97). -/
def State.noContactTerm (s : State) (addr : Nat) : State :=
  s.modTerm addr fun t =>
    let t := { t with contact := false }
    match t.state with
    | .unseen => t
    | .noContact => t
    | _ => t.loseContact s.now

/-- The no-contact effects on a floor (R97). -/
def State.noContactFloor (s : State) (floor : Nat) : State :=
  overKeys (s.floorTerms floor) (fun a s => s.noContactTerm a) s

/-- An entry is taken OFF_POWER and folded into the floor's record (R98). -/
def State.powerFold (s : State) (x addr : Nat) : State :=
  (s.modTerm addr fun t =>
    { (t.enter .offPower).stamp s.now with gaspHold := none, holdDown := none, offSince := none }).foldTerm x addr

/-- The floor-power effects on one entry, with record `x` (R98). -/
def State.floorPowerTerm (s : State) (x addr : Nat) : State :=
  let s := s.modTerm addr fun t => { t with contact := false }
  match s.term? addr with
  | none => s
  | some t =>
    match t.state with
    | .lit | .gasped => s.powerFold x addr
    | .restoring =>
      if t.folded then
        s.modTerm addr fun u =>
          { (u.enter (t.prior.getD .offDark)).stamp s.now with holdDown := none, offSince := none }
      else s.powerFold x addr
    | .unseen => s.modTerm addr fun t => t.loseContact s.now
    | .heldDark | .heldPower | .offDark | .offPower | .noContact => s

/-- The floor-power effects on a floor, in ascending address order (R98). -/
def State.floorPowerFloor (s : State) (x floor : Nat) : State :=
  overKeys (s.floorTerms floor) (fun a s => s.floorPowerTerm x a) s

/-! ## Baseline -/

/-- What a baseline counts an entry as (R99, R100). -/
inductive BaselineResult where
  | lit | restored | dark | resumed | raised | unchanged
  deriving DecidableEq, Repr

/-- A baseline of an entry whose port is lit (R99). -/
def State.baselineLit (s : State) (addr : Nat) (t : Terminal) : State × BaselineResult :=
  match t.state with
  | .unseen => (s.modTerm addr fun t => (t.enter .lit).stamp s.now, .lit)
  | .noContact =>
    if (t.prior.map TState.isOff).getD false then (s.restoreTerm addr t .baseline, .restored)
    else (s.modTerm addr fun t => (t.enter .lit).stamp s.now, .lit)
  | _ => (s, .unchanged)

/-- A baseline of an entry whose port is dark (R100). -/
def State.baselineDark (s : State) (addr : Nat) (t : Terminal) : State × BaselineResult :=
  let quietly := s.modTerm addr fun t => { (t.enter .offDark).stamp s.now with reported := false }
  match t.state with
  | .unseen => (quietly, .dark)
  | .noContact =>
    match t.prior with
    | some .unseen => (quietly, .dark)
    | some .offDark => (s.modTerm addr fun t => (t.enter .offDark).stamp s.now, .resumed)
    | some .offPower => (s.modTerm addr fun t => (t.enter .offPower).stamp s.now, .resumed)
    | some .gasped => (s.darkFrom addr t true s.now, .raised)
    | some .heldPower => (s.darkFrom addr t true s.now, .raised)
    | _ => (s.darkFrom addr t false s.now, .raised)
  | _ => (s, .unchanged)

/-- One more entry with its result (R101). -/
def BaselineCounts.add (c : BaselineCounts) : BaselineResult → BaselineCounts
  | .lit => { c with lit := c.lit + 1 }
  | .restored => { c with restored := c.restored + 1 }
  | .dark => { c with dark := c.dark + 1 }
  | .resumed => { c with resumed := c.resumed + 1 }
  | .raised => { c with raised := c.raised + 1 }
  | .unchanged => { c with unchanged := c.unchanged + 1 }

/-- A baseline of one entry, from the map position of its port (R99, R100). -/
def State.baselineTerm (s : State) (light : BitVec 16) (addr : Nat) : State × BaselineResult :=
  match s.term? addr with
  | none => (s, .unchanged)
  | some t => if light.getLsbD (portOf addr) then s.baselineLit addr t else s.baselineDark addr t

/-- A baseline of a floor: CONTACT on every entry, the entries in ascending order, then BASELINE_DONE (R99,
R100, R101). -/
def State.baselineFloor (s : State) (floor : Nat) (light : BitVec 16) : State :=
  let addrs := s.floorTerms floor
  let s1 := overKeys addrs (fun a s => s.modTerm a fun t => { t with contact := true }) s
  let (s2, counts) := addrs.foldl
    (fun acc a => let (s', r) := acc.1.baselineTerm light a; (s', acc.2.add r)) (s1, ⟨0, 0, 0, 0, 0, 0⟩)
  s2.offer .info (.baselineDone floor addrs.length counts)

end Sys2Proof.Machine
end

