-- ==== Sys2Proof/Machine/RiserBus.lean ====
section
/-! DEFINITION. The riser bus controller and the contact states (02): sending commands, judging replies,
misses, silence, and what a good reply delivers. -/

namespace Sys2Proof.Machine

/-- Changes the counters of a floor's unit. -/
def State.count (s : State) (floor : Nat) (f : UnitCounters → UnitCounters) : State :=
  s.modUnit floor fun u => { u with counters := f u.counters }

/-! ## Sending -/

/-- The command frame of the transaction goes out: the FMUs that hear it act, the attempt is counted, and a
POLL or STATUS opens its reply window and raises polls sent (R25, R33, R35). -/
def State.sendCommand (s : State) (t : Txn) (h : Hearing) : State :=
  let (fmus, replies) := hearAll s.fmus t.order.frame h
  let s1 := (s.modFmus fun _ => fmus).modRiser fun r =>
    { r with
      txn := some { t with attempts := t.attempts + 1, phase := .sent, elapsed := 0 }
      quiet := false
      heard := false
      wire := replies }
  match t.order.floor? with
  | none => s1
  | some floor => if t.orphan then s1 else s1.count floor fun c => { c with polls := inc16 c.polls }

/-- A command of the given kind goes out when it waits to be sent and the line is quiet (R24). In HALTED no
command is sent (R48). -/
def State.sendIf (s : State) (kind : Order → Bool) (h : Hearing) : State :=
  match s.riser.txn with
  | none => s
  | some t =>
    if !s.halted && decide (t.phase = .toSend) && s.riser.quiet && kind t.order then s.sendCommand t h else s

/-- The order is a POLL. -/
def Order.isPoll : Order → Bool
  | .poll .. => true
  | .status _ => false
  | .clear _ => false
/-- The order is a STATUS. -/
def Order.isStatus : Order → Bool
  | .poll .. => false
  | .status _ => true
  | .clear _ => false
/-- The order is a CLEAR. -/
def Order.isClear : Order → Bool
  | .poll .. => false
  | .status _ => false
  | .clear _ => true

/-- The line has not been quiet at any time of the last 20 ms while the command waited: it is sent anyway and
the riser busy count rises (R24). -/
def State.sendBusy (s : State) (h : Hearing) : State :=
  match s.riser.txn with
  | none => s
  | some t =>
    if !s.halted && decide (t.phase = .toSend) && !s.riser.quiet && decide (20 ≤ t.elapsed) then
      (s.modRiser fun r => { r with busy := inc16 r.busy }).sendCommand t h
    else s

/-! ## Silence and misses -/

/-- The silence follows a unit gasp: a unit-gasp time is held and lies at most the gasp hold back (R44). -/
def State.followsGasp (s : State) (u : FloorUnit) : Bool :=
  match u.gaspTime with
  | none => false
  | some g => decide ((s.now - g).toNat * 10 ≤ s.gaspHoldMs)

/-- The outcome of a silence at the fault and terminal tables (R44). -/
def State.silenceOutcome (s : State) (floor : Nat) (afterGasp : Bool) : State :=
  match afterGasp, s.faultOn .floorPower floor with
  | true, some x => (s.returnToOpen x).floorPowerFloor x floor
  | true, none =>
    let (s1, rec) := s.openFault .floorPower floor
    match rec with
    | some x => (s1.floorPowerFloor x floor).offerOpened x false
    | none => s1.noContactFloor floor
  | false, some _ => s.noContactFloor floor
  | false, none =>
    match s.faultOn .unitLost floor with
    | some _ => s.noContactFloor floor
    | none =>
      let (s1, rec) := s.openFault .unitLost floor
      match rec with
      | some x => (s1.noContactFloor floor).offerOpened x false
      | none => s1.noContactFloor floor

/-- An FMU enters SILENT (R44). -/
def State.enterSilent (s : State) (floor : Nat) (u : FloorUnit) (misses : Nat) : State :=
  (s.modUnit floor fun u =>
    { u with contact := .silent, misses := misses, baseline := true, gaspTime := none }).silenceOutcome floor
    (s.followsGasp u)

/-- A transaction ended as a miss (R35, R43). -/
def State.missed (s : State) (floor : Nat) : State :=
  match s.unit? floor with
  | none => s
  | some u =>
    let s1 := s.count floor fun c => { c with misses := inc16 c.misses }
    let n := u.misses + 1
    match u.contact with
    | .silent => s1
    | .present =>
      if s.settings.silentLimit.toNat ≤ n then s1.enterSilent floor u n
      else s1.modUnit floor fun u => { u with misses := n }
    | .active | .retrying =>
      if s.settings.silentLimit.toNat ≤ n then s1.enterSilent floor u n
      else s1.modUnit floor fun u => { u with misses := n, contact := .retrying }

/-- The counter of a failed attempt (R34, R46); none: no start bit within the window. -/
def countFailure (c : UnitCounters) : Option ReplyFailure → UnitCounters
  | none => { c with noReply := inc16 c.noReply }
  | some .parity => { c with parity := inc16 c.parity }
  | some .check => { c with check := inc16 c.check }
  | some .wrongAddress => { c with wrongAddress := inc16 c.wrongAddress }

/-- An attempt has failed: it is counted, and retried with the identical command while the retry setting, read
now, permits; else the transaction ends as a miss (R35). An orphan counts and moves nothing (R22, R46). -/
def State.attemptFailed (s : State) (t : Txn) (floor : Nat) (why : Option ReplyFailure) : State :=
  let s1 := if t.orphan then s else s.count floor fun c => countFailure c why
  if t.attempts ≤ s.settings.retries.toNat then
    s1.modRiser fun r => { r with txn := some { t with phase := .toSend, elapsed := 0 } }
  else (if t.orphan then s1 else s1.missed floor).endTxn false

/-! ## A good reply -/

/-- The contact state after a good reply, the miss count 0 (R42). The state held before is in `u`. -/
def State.contactGood (s : State) (floor : Nat) (u : FloorUnit) : State :=
  match u.contact with
  | .active | .retrying => s.modUnit floor fun u => { u with contact := .active, misses := 0 }
  | .present =>
    let s1 := s.modUnit floor fun u => { u with contact := .active, misses := 0, gaspTime := none }
    match s1.faultOn .floorPower floor with
    | none => s1
    | some x => s1.causeGone x
  | .silent =>
    let s1 := s.modUnit floor fun u => { u with contact := .present, misses := 0 }
    match s1.faultOn .unitLost floor with
    | none => s1
    | some x => (s1.offerClosed x .unitReturned 0 0).removeFault x

/-- The event time of a record: the uptime of acceptance less floor(age / 10), modulo 2^32 (R37). -/
def eventTime (now : Uptime) (age : Nat) : Uptime := now - BitVec.ofNat 32 (age / 10)

/-- One record of a good event reply is handed on (R37, R38). -/
def State.handRecord (s : State) (floor : Nat) (r : WireRecord) : State :=
  match r.kind with
  | none => s.count floor fun c => { c with unknown := inc16 c.unknown }
  | some kind =>
    let s1 := s.count floor fun c => { c with events := inc16 c.events }
    let time := eventTime s.now r.age
    match kind with
    | .unitGasp => s1.modUnit floor fun u => { u with gaspTime := some time }
    | .gasp | .dark | .light =>
      s1.takeEvent floor (((s.unit? floor).map FloorUnit.resync).getD false) kind r.port time

/-- A record of a kind that is urgent (R37, R55). -/
def WireRecord.urgent (r : WireRecord) : Bool := (r.kind.map isUrgent).getD false

/-- A good event reply's content: the records in order, the tap trailer, then what the scheduler is told: the
return of the pacing level on an urgent record (R55), and the end of the resync mark without the more flag
(R62). The sequence bit toggles (R36). -/
def State.takeEvents (s : State) (floor : Nat) (seq more : Bool) (records : List WireRecord)
    (tapA tapB : Word16) : State :=
  let s1 := s.modUnit floor fun u => { u with seq := some (!seq) }
  let s2 := records.foldl (fun s r => s.handRecord floor r) s1
  let s3 := s2.tapTrailer floor tapA tapB
  let s4 := if records.any WireRecord.urgent then s3.pacingReturn else s3
  if more then s4 else s4.modUnit floor fun u => { u with resync := false }

/-- The sequence bit after a good map reply: an unknown bit becomes the opposite of the held sequence, or 0
when none is held; a known bit stays (R36). -/
def seqAfterMap (seq held : Option Bool) : Option Bool :=
  match seq with
  | some b => some b
  | none => some (match held with | some h => !h | none => false)

/-- A good map reply's content: a baseline of the floor, unless the FMU was SILENT when the reply was
accepted (R40), then the tap trailer (R39). -/
def State.takeMap (s : State) (floor : Nat) (before : Contact) (light : BitVec 16) (held : Option Bool)
    (tapA tapB : Word16) : State :=
  let s1 := s.modUnit floor fun u => { u with seq := seqAfterMap u.seq held }
  let s2 := if before = .silent then s1
    else (s1.modUnit floor fun u => { u with baseline := false }).baselineFloor floor light
  s2.tapTrailer floor tapA tapB

/-- A good reply of a provisioned floor is accepted: counted, the contact state updated, then its content
handed over (R34, R37 to R42). -/
def State.accept (s : State) (floor : Nat) (u : FloorUnit) (seq : Bool) (g : GoodReply) : State :=
  let s1 := (s.count floor fun c => { c with good := inc16 c.good }).contactGood floor u
  match g with
  | .events more records a b => s1.takeEvents floor seq more records a b
  | .map light held a b => s1.takeMap floor u.contact light held a b

/-- The sequence bit that an order carried. -/
def Order.seq : Order → Bool
  | .poll _ b => b
  | .status _ => false
  | .clear _ => false

/-- A reply's more flag, of an event reply. -/
def GoodReply.more : GoodReply → Bool
  | .events more .. => more
  | .map .. => false

/-- A reply frame has ended for an attempt (R34, R35): a failed check fails the attempt, a good reply ends the
transaction. A good reply of a floor made ABSENT is discarded (R22, R42). -/
def State.judgeReply (s : State) (t : Txn) (floor : Nat) (chars : List RxChar) : State :=
  match checkReply t.order chars with
  | .error why => s.attemptFailed t floor (some why)
  | .ok g =>
    if t.orphan then s.endTxn false
    else match s.unit? floor with
      | none => s.endTxn false
      | some u => (s.accept floor u t.order.seq g).endTxn g.more

/-! ## The line's events -/

/-- In HALTED an attempt that ends on the wire ends without effect (R48). -/
def State.endOnWire (s : State) : State := s.modRiser fun r => { r with txn := none }

/-- No start bit within the 4 ms reply window (R33). Whether the line is quiet then is for the quiet rule
(R24). -/
def State.windowExpires (s : State) : State :=
  match s.riser.txn with
  | none => s
  | some t =>
    match t.order.floor? with
    | none => s
    | some floor =>
      if t.phase = .sent ∧ 4 ≤ t.elapsed then
        if s.halted then s.endOnWire else s.attemptFailed t floor none
      else s

/-- A reply has not ended 20 ms after the command: it is abandoned, and its remaining characters keep the line
from being quiet (R33). -/
def State.abandonReply (s : State) : State :=
  match s.riser.txn with
  | none => s
  | some t =>
    match t.order.floor? with
    | none => s
    | some floor =>
      if t.phase = .replying ∧ 20 ≤ t.elapsed then
        let s1 := s.modRiser fun r => { r with quiet := false }
        if s.halted then s1.endOnWire else s1.attemptFailed t floor (some .check)
      else s

/-- A reply has begun within the 4 ms window and ends within 20 ms of the command (R33). A whole reply inside
the window stands for its first start bit too (assumption 20). -/
def Txn.awaits (t : Txn) : Bool :=
  match t.phase with
  | .toSend => false
  | .sent => decide (t.elapsed ≤ 4)
  | .replying => decide (t.elapsed ≤ 20)

/-- The line has gone quiet (R24), and every FMU hears again (R25). -/
def State.quietLine (s : State) : State :=
  (s.modRiser fun r => { r with quiet := true, heard := false }).modFmus (fmusOnLine true)

/-- A reply frame ends while a reply is awaited, and its end is the quiet of the line, at which every FMU hears again
(R24, R25, R33, R34); other frames are discarded (R24). -/
def State.replyEnds (s : State) (chars : List RxChar) : State :=
  match s.riser.txn with
  | none => s
  | some t =>
    match t.order.floor? with
    | none => s
    | some floor =>
      if t.awaits then
        let s1 := s.quietLine
        if s.halted then s1.endOnWire else s1.judgeReply t floor chars
      else s

/-- A start bit arrives, and the line is not quiet: within the reply window it begins a reply; a later
character of the reply changes nothing more; otherwise the character is discarded and delays the next command
(R24, R33). -/
def State.riserCharacter (s : State) : State :=
  s.modRiser fun r =>
    { r with
      quiet := false
      heard := true
      txn := r.txn.map fun t =>
        if t.order.floor?.isSome && decide (t.phase = .sent) && decide (t.elapsed ≤ 4) then
          { t with phase := .replying }
        else t }

/-- Whether a floor lies in a scope (R61). -/
def Scope.covers : Scope → Nat → Bool
  | .all, _ => true
  | .group g, floor => floor / 8 = g
  | .one f, floor => floor = f

/-- The provisioned floors of a scope are marked resync pending, whatever their contact state (R61). -/
def State.markResync (s : State) (scope : Scope) : State :=
  { s with units := s.units.map fun e => if scope.covers e.1 then (e.1, { e.2 with resync := true }) else e }

end Sys2Proof.Machine
end

