-- ==== Sys2Proof/Machine/Provision.lean ====
section
/-! DEFINITION. The requests on the topology tables (01): terminals, learned entries, domains, floor
units. -/

namespace Sys2Proof.Machine

/-- An OK reply with its fields (R175). -/
def Reply.ok (b : ReplyBody) : Reply := ⟨.ok, false, false, b⟩
/-- A refusal carries no fields after the status byte (R175). -/
def Reply.fail (st : Status) : Reply := ⟨st, false, false, .empty⟩

/-- The status of the first check that fails, from checks in order: each with whether it passes (R3, R17). -/
def firstFailure : List (Bool × Status) → Option Status
  | [] => none
  | (passes, st) :: rest => if passes then firstFailure rest else some st

/-- A request with ordered checks: refused with the first failing check's status and nothing changed, or
carried out. -/
def State.checked (s : State) (checks : List (Bool × Status)) (run : State → State × Reply) : State × Reply :=
  match firstFailure checks with
  | some st => (s, .fail st)
  | none => run s

/-! ## MASKED and WATCH -/

/-- Clearing MASKED offers TERMINAL_OFF for this entry: FOLDED and REPORTED clear, and an off state, or
NO_CONTACT with an off state as prior state (R157). -/
def Terminal.offUnreported (t : Terminal) : Bool :=
  !t.folded && !t.reported && (t.state.isOff ||
    (decide (t.state = .noContact) && (t.prior.map TState.isOff).getD false))

/-- A change of MASKED with its immediate effects (R156, R157); no effect where the value stays. -/
def State.setMasked (s : State) (addr : Nat) (v : Bool) : State :=
  match s.term? addr with
  | none => s
  | some t =>
    if t.prov.masked = v then s
    else
      let s1 := s.modTerm addr fun t => { t with prov := { t.prov with masked := v } }
      if !v && t.offUnreported then s1.offerTerminalOff addr .unmasked else s1

/-- A change of WATCH: it governs later WATCH notices only (R158). -/
def State.setWatch (s : State) (addr : Nat) (v : Bool) : State :=
  s.modTerm addr fun t => { t with prov := { t.prov with watch := v } }

/-! ## Terminals -/

/-- The off class of a class byte: 1 MAJOR, 2 MINOR (R182). -/
def offClassOf (b : Byte) : Option OffClass :=
  if b = 1#8 then some .major else if b = 2#8 then some .minor else none

/-- The seven checks of TERMINAL_WRITE (R3). -/
def State.terminalWriteChecks (s : State) (addr dom : Nat) (offClass : Byte) : List (Bool × Status) :=
  let old := s.term? addr
  let moves := match old with | some t => decide (t.prov.domain ≠ dom) | none => false
  let pinned := match old with | some t => t.held || t.folded | none => false
  [ (decide (addr ≤ 1023) && decide (dom ≤ 63) && (offClassOf offClass).isSome, .outOfRange),
    ((s.unit? (floorOf addr)).isSome, .notFound),
    ((s.domain? dom).isSome, .notFound),
    (decide ((s.domain? dom).map (fun d => d.fields.level) = some .splitter), .badLevel),
    (!(moves && pinned), .inUse),
    (!(old.isNone || moves) || decide (s.memberCount dom < 32), .domainFull),
    (!old.isNone || decide (s.terms.length < 512), .tableFull) ]

/-- A unit in ACTIVE or RETRYING is marked baseline pending for a new entry of its floor (R4). -/
def FloorUnit.wantBaseline (u : FloorUnit) : FloorUnit :=
  match u.contact with
  | .active => { u with baseline := true }
  | .retrying => { u with baseline := true }
  | .present => u
  | .silent => u

/-- A new static entry (R4, R14). -/
def State.createTerm (s : State) (addr : Nat) (p : Provisioned) : State :=
  (({ s with terms := Table.put s.terms addr (newTerminal p) }).modLearned fun l => Table.erase l addr).modUnit
    (floorOf addr) FloorUnit.wantBaseline

/-- A rewrite of an entry: its provisioned fields are replaced and its runtime record kept, then the changes
of MASKED and WATCH take their effects (R5, assumption 27). -/
def State.rewriteTerm (s : State) (addr : Nat) (p : Provisioned) : State :=
  ((s.modTerm addr fun t => { t with prov := { p with masked := t.prov.masked, watch := t.prov.watch } }).setMasked
    addr p.masked).setWatch addr p.watch

/-- TERMINAL_WRITE (R3, R4, R5). -/
def State.terminalWrite (s : State) (addr dom : Nat) (offClass : Byte) (notify : Bool) (label : Word16)
    (masked watch : Bool) : State × Reply :=
  s.checked (s.terminalWriteChecks addr dom offClass) fun s =>
    let p : Provisioned := ⟨dom, (offClassOf offClass).getD .minor, notify, label, masked, watch⟩
    match s.term? addr with
    | none =>
      let s1 := s.createTerm addr p
      (s1, .ok (.terminalWritten addr true (Table.has s.learned addr) (s1.memberCount dom)))
    | some _ =>
      let s1 := s.rewriteTerm addr p
      (s1, .ok (.terminalWritten addr false false (s1.memberCount dom)))

/-- TERMINAL_REMOVE (R6). -/
def State.terminalRemove (s : State) (addr : Nat) : State × Reply :=
  let pinned := match s.term? addr with | some t => t.held || t.folded | none => false
  s.checked
    [ (decide (addr ≤ 1023), .outOfRange), ((s.term? addr).isSome, .notFound), (!pinned, .inUse) ]
    fun s => ({ s with terms := Table.erase s.terms addr, latch := s.latch.filter fun a => a ≠ addr }, .ok .empty)

/-- TERMINAL_READ (R7). -/
def State.terminalRead (s : State) (addr : Nat) : State × Reply :=
  if 1023 < addr then (s, .fail .outOfRange)
  else match s.term? addr with
    | none => (s, .fail .notFound)
    | some t => (s, .ok (.terminal addr t))

/-- LEARNED_LIST (R15). -/
def State.learnedList (s : State) (start : Nat) : State × Reply :=
  if 63 < start then (s, .fail .outOfRange)
  else (s, .ok (.learned s.learned.length start ((s.learned.drop start).take 24)))

/-! ## Domains -/

/-- The level of a level byte (R182). -/
def levelOf (b : Nat) : Option Level :=
  match b with
  | 0 => some .splitter
  | 1 => some .segment
  | 2 => some .feeder
  | _ => none

/-- The level exactly one up (R16). -/
def Level.up : Level → Option Level
  | .splitter => some .segment
  | .segment => some .feeder
  | .feeder => none

/-- The child limit of a level (01 1.4). -/
def Level.childLimit : Level → Nat
  | .splitter => 0
  | .segment => 16
  | .feeder => 8

/-- The tap of a tap byte (R182). -/
def tapOf (b : Nat) : Option Tap :=
  match b with
  | 0 => some .a
  | 1 => some .b
  | _ => none

/-- Check 1 of DOMAIN_WRITE, and the record's fields where it passes (R17). -/
def domainFields (id level : Nat) (parent channel : Option Nat) (tap : Option (Nat × Nat)) : Option DomainFields :=
  match levelOf level with
  | none => none
  | some l =>
    if 63 < id then none
    else if parent.any fun p => decide (63 < p) then none
    else if channel.any fun c => decide (3 < c) then none
    else match tap with
      | none => some ⟨l, parent, channel, none⟩
      | some (f, t) =>
        if 63 < f then none
        else (tapOf t).map fun t => ⟨l, parent, channel, some (f, t)⟩

/-- Checks 2 to 11 of DOMAIN_WRITE (R17). -/
def State.domainWriteChecks (s : State) (id : Nat) (d : DomainFields) : List (Bool × Status) :=
  let old := s.domain? id
  let oldParent := old.bind fun o => o.fields.parent
  let quiet (p : Option Nat) : Bool := p.all fun p => (s.windowOf p).isQuiet
  let levelMoves := old.any fun o => decide (o.fields.level ≠ d.level)
  let parentMoves := old.any fun o => decide (o.fields.parent ≠ d.parent)
  let channelMoves := old.any fun o => decide (o.fields.channel ≠ d.channel)
  [ (!(d.parent.isSome && decide (d.level = .feeder)) && !(d.channel.isSome && decide (d.level ≠ .feeder)) &&
      !(d.tap.isSome && decide (d.level ≠ .splitter)), .badLevel),
    (decide (d.parent ≠ some id), .badLevel),
    (d.parent.all fun p => (s.domain? p).isSome, .notFound),
    (d.parent.all fun p => decide ((s.domain? p).map (fun o => o.fields.level) = d.level.up), .badLevel),
    (d.tap.all fun t => (s.unit? t.1).isSome, .notFound),
    (!levelMoves || (decide (s.memberCount id = 0) && (s.childDomains id).isEmpty && (s.windowOf id).isQuiet),
      .inUse),
    (!parentMoves || ((s.windowOf id).isQuiet && quiet oldParent && quiet d.parent), .inUse),
    (!(s.holdsFault id && channelMoves), .inUse),
    ((d.tap.all fun t => (Table.keysWhere s.domains fun k o => decide (k ≠ id) && decide (o.fields.tap = some t)).isEmpty) &&
      (d.channel.all fun c =>
        (Table.keysWhere s.domains fun k o => decide (k ≠ id) && decide (o.fields.channel = some c)).isEmpty), .inUse),
    (d.parent.all fun p => decide (oldParent = some p) ||
      decide ((s.childDomains p).length < (d.level.up.map Level.childLimit).getD 0), .domainFull) ]

/-- A DOMAIN_WRITE taken: an empty position gets a record, an occupied one keeps its window (R18). -/
def State.putDomain (s : State) (id : Nat) (d : DomainFields) : State :=
  { s with domains := Table.put s.domains id ⟨d, s.windowOf id⟩ }

/-- DOMAIN_WRITE (R17, R18). -/
def State.domainWrite (s : State) (id level : Nat) (parent channel : Option Nat) (tap : Option (Nat × Nat)) :
    State × Reply :=
  match domainFields id level parent channel tap with
  | none => (s, .fail .outOfRange)
  | some d =>
    s.checked (s.domainWriteChecks id d) fun s =>
      let s1 := s.putDomain id d
      (s1, .ok (.domainWritten id d (s1.memberCount id) (s1.childDomains id).length))

/-- DOMAIN_REMOVE (R19). -/
def State.domainRemove (s : State) (id : Nat) : State × Reply :=
  s.checked
    [ (decide (id ≤ 63), .outOfRange), ((s.domain? id).isSome, .notFound),
      (decide (s.memberCount id = 0) && (s.childDomains id).isEmpty && (s.windowOf id).isQuiet, .inUse) ]
    fun s => ({ s with domains := Table.erase s.domains id }, .ok .empty)

/-- DOMAIN_READ (R20). -/
def State.domainRead (s : State) (id : Nat) : State × Reply :=
  if 63 < id then (s, .fail .outOfRange)
  else match s.domain? id with
    | none => (s, .fail .notFound)
    | some d => (s, .ok (.domain id d (s.memberCount id) (s.childDomains id).length))

/-! ## Floor units -/

/-- A floor is provisioned: at the position of the running cycle it waits for the next cycle, and above it it is in
the present one (R53). A cycle that waits for a sweep is not yet running (R54, assumption 38). -/
def Sched.provision (c : Sched) (floor : Nat) : Sched :=
  if c.pos = some floor ∧ c.cycleWaits = false then { c with skip := some floor } else c

/-- FLOOR_UNIT_WRITE (R21, R53). -/
def State.floorUnitWrite (s : State) (floor : Nat) : State × Reply :=
  if 63 < floor then (s, .fail .outOfRange)
  else match s.unit? floor with
    | some u => (s, .ok (.floorWritten false u.contact (s.staticCount floor)))
    | none =>
      (({ s with units := Table.put s.units floor newUnit }).modSched fun c => c.provision floor,
        .ok (.floorWritten true newUnit.contact (s.staticCount floor)))

/-- The transaction in progress loses its floor: it runs to its end without effect (R22). -/
def State.orphanTxn (s : State) (floor : Nat) : State :=
  s.modRiser fun r =>
    { r with txn := r.txn.map fun t => if t.order.floor? = some floor then { t with orphan := true } else t }

/-- A floor made ABSENT: its record is discarded, its tap slots return to UNKNOWN (R22, R80). -/
def State.dropFloor (s : State) (floor : Nat) : State :=
  ({ s with
    units := Table.erase s.units floor
    taps := Table.erase (Table.erase s.taps (tapIndex floor .a)) (tapIndex floor .b) }).orphanTxn floor

/-- FLOOR_UNIT_REMOVE (R22). -/
def State.floorUnitRemove (s : State) (floor : Nat) : State × Reply :=
  s.checked
    [ (decide (floor ≤ 63), .outOfRange), ((s.unit? floor).isSome, .notFound),
      (decide (s.staticCount floor = 0) && (s.tapLink floor .a).isNone && (s.tapLink floor .b).isNone &&
        (s.faultOn .unitLost floor).isNone && (s.faultOn .floorPower floor).isNone, .inUse) ]
    fun s => (s.dropFloor floor, .ok .empty)

/-- FLOOR_UNIT_READ (R23). -/
def State.floorUnitRead (s : State) (floor : Nat) : State × Reply :=
  if 63 < floor then (s, .fail .outOfRange)
  else (s, .ok (.floor (s.unit? floor) (s.tapLink floor .a) (s.tapLink floor .b) (s.staticCount floor)))

end Sys2Proof.Machine
end

