-- ==== Sys2Proof/Machine/SettingsRequests.lean ====
section
/-! DEFINITION. The settings: their ranges, SETTINGS_WRITE and SETTINGS_READ (10). -/

namespace Sys2Proof.Machine

/-- The value of a setting by its number (10, settings table). -/
def Settings.get (c : Settings) : Nat → Int
  | 1 => c.gaspHold
  | 2 => c.holdDown
  | 3 => c.windowSplitter
  | 4 => c.windowSegment
  | 5 => c.windowFeeder
  | 6 => c.maxFactor
  | 7 => c.tfSplitter
  | 8 => c.tfSegment
  | 9 => c.tfFeeder
  | 10 => c.tpSplitter
  | 11 => c.tpSegment
  | 12 => c.tpFeeder
  | 13 => c.nminSplitter
  | 14 => c.nminSegment
  | 15 => c.nminFeeder
  | 16 => c.clearingLimit
  | 17 => c.reminder
  | 18 => c.aging
  | 19 => c.retries
  | 20 => c.silentLimit
  | 21 => c.stepInterval
  | 22 => c.smoothing
  | 23 => c.calibration0
  | 24 => c.calibration1
  | 25 => c.calibration2
  | 26 => c.calibration3
  | 27 => c.feederLos
  | 28 => c.feederLow
  | 29 => c.feederHyst
  | 30 => c.tapLos
  | 31 => c.tapLow
  | 32 => c.tapHyst
  | 33 => c.discipline
  | _ => 0

/-- Puts a value into a setting by its number. -/
def Settings.put (c : Settings) (n : Nat) (v : Int) : Settings :=
  match n with
  | 1 => { c with gaspHold := v }
  | 2 => { c with holdDown := v }
  | 3 => { c with windowSplitter := v }
  | 4 => { c with windowSegment := v }
  | 5 => { c with windowFeeder := v }
  | 6 => { c with maxFactor := v }
  | 7 => { c with tfSplitter := v }
  | 8 => { c with tfSegment := v }
  | 9 => { c with tfFeeder := v }
  | 10 => { c with tpSplitter := v }
  | 11 => { c with tpSegment := v }
  | 12 => { c with tpFeeder := v }
  | 13 => { c with nminSplitter := v }
  | 14 => { c with nminSegment := v }
  | 15 => { c with nminFeeder := v }
  | 16 => { c with clearingLimit := v }
  | 17 => { c with reminder := v }
  | 18 => { c with aging := v }
  | 19 => { c with retries := v }
  | 20 => { c with silentLimit := v }
  | 21 => { c with stepInterval := v }
  | 22 => { c with smoothing := v }
  | 23 => { c with calibration0 := v }
  | 24 => { c with calibration1 := v }
  | 25 => { c with calibration2 := v }
  | 26 => { c with calibration3 := v }
  | 27 => { c with feederLos := v }
  | 28 => { c with feederLow := v }
  | 29 => { c with feederHyst := v }
  | 30 => { c with tapLos := v }
  | 31 => { c with tapLow := v }
  | 32 => { c with tapHyst := v }
  | 33 => { c with discipline := v }
  | _ => c

/-- The range of a setting by its number; the low end of a LOW threshold is that of its LOS threshold, which
is looked at after all entries (R70, R178). -/
def settingRange : Nat → Int × Int
  | 1 => (100, 10000)
  | 2 => (1, 60)
  | 3 | 4 | 5 => (1, 30)
  | 6 => (1, 8)
  | 7 | 8 | 9 | 10 | 11 | 12 => (1, 256)
  | 13 => (1, 32)
  | 14 | 15 => (1, 16)
  | 16 => (10, 600)
  | 17 => (0, 60)
  | 18 => (1, 255)
  | 19 => (0, 3)
  | 20 => (1, 15)
  | 21 => (100, 2000)
  | 22 => (0, 4)
  | 23 | 24 | 25 | 26 => (-100, 100)
  | 27 | 28 | 30 | 31 => (-600, 150)
  | 29 | 32 => (0, 50)
  | _ => (0, 1)

/-- A value clamped into a setting's range (R178). -/
def clampSetting (n : Nat) (v : Int) : Int := max (settingRange n).1 (min (settingRange n).2 v)

/-- The four conditions of a reminder that a write of the interval from 0 starts (R142, R147). -/
def FaultRecord.reminderDue (f : FaultRecord) : Bool := f.announced && !f.acked && f.parent.isNone

/-- What a written reminder interval does to the timers: 0 stops every running one; 1..60 while the interval
in force is 0 starts those that are due (R147). -/
def State.remindersAfter (s : State) (before v : Int) : State :=
  { s with faults := s.faults.map fun e =>
      if v = 0 then (e.1, { e.2 with reminder := none })
      else if before = 0 ∧ e.2.reminderDue then (e.1, { e.2 with reminder := some (v.toNat * 60000) })
      else e }

/-- One applied value takes effect as its owning rule gives: the aging timer on a change (R13), the step timer
when it is running (R57), the reminder timers (R147), the WEIGHTED round (R163). -/
def State.applySetting (s : State) (n : Nat) (v : Int) : State :=
  let before := s.settings.get n
  let s1 := { s with settings := s.settings.put n v }
  match n with
  | 17 => s1.remindersAfter before v
  | 18 => if before = v then s1 else s1.modTally fun c => { c with aging := v.toNat * 60000 }
  | 21 => s1.modSched fun c => { c with step := c.step.map fun _ => v.toNat }
  | 33 => if before = 0 ∧ v = 0 then s1 else s1.modNotices fun q => { q with credits := fullCredits }
  | _ => s1

/-- The LOW thresholds are raised to the LOS thresholds of their kind after all entries (R70). -/
def Settings.raiseLow (c : Settings) : Settings :=
  { c with feederLow := max c.feederLow c.feederLos, tapLow := max c.tapLow c.tapLos }

/-- A signed entry of the request. -/
def settingEntry (e : Byte × Word32) : Nat × Int := (e.1.toNat, e.2.toInt)

/-- The checks on a SETTINGS_WRITE: the count, the setting numbers, the discipline values (R178). -/
def settingsEntriesOk (es : List (Nat × Int)) : Bool :=
  decide (1 ≤ es.length) && decide (es.length ≤ 33) &&
    es.all fun e => decide (1 ≤ e.1) && decide (e.1 ≤ 33) && (decide (e.1 ≠ 33) || decide (e.2 = 0) || decide (e.2 = 1))

/-- The value that the reply reports as applied for an entry: clamped into its range, and for a LOW threshold
against the LOS threshold as it stands after all entries (R178, assumption 18). -/
def appliedValue (final : Settings) (e : Nat × Int) : Nat × Int :=
  (e.1, match e.1 with
    | 28 => max (clampSetting 28 e.2) final.feederLos
    | 31 => max (clampSetting 31 e.2) final.tapLos
    | n => clampSetting n e.2)

/-- SETTINGS_WRITE (R178, R70). -/
def State.settingsWrite (s : State) (entries : List (Byte × Word32)) : State × Reply :=
  let es := entries.map settingEntry
  if settingsEntriesOk es then
    let s1 := es.foldl (fun s e => s.applySetting e.1 (clampSetting e.1 e.2)) s
    let s2 := { s1 with settings := s1.settings.raiseLow }
    let applied := es.map (appliedValue s2.settings)
    (s2, { status := .ok, noWindow := false, body := .settingsApplied applied,
           clamped := decide (applied ≠ es) || decide (s2.settings ≠ s1.settings) })
  else (s, .fail .outOfRange)

/-- SETTINGS_READ (R179). -/
def State.settingsRead (s : State) : State × Reply :=
  (s, .ok (.settings s.settings s.sched.level s.sched.count s.store.saving.isSome))

end Sys2Proof.Machine
end

