-- ==== Sys2Proof/Machine/Query.lean ====
section
/-! DEFINITION. The query unit (08): MATCH and BULK_UPDATE. -/

namespace Sys2Proof.Machine

/-! ## MATCH -/

/-- The four combine modes, numbered in this order (R151, R182). -/
inductive Combine where
  | copy | and | or | xor
  deriving DecidableEq, Repr

/-- The combine mode of a mode byte. -/
def combineOf (b : Nat) : Option Combine :=
  match b with
  | 0 => some .copy
  | 1 => some .and
  | 2 => some .or
  | 3 => some .xor
  | _ => none

/-- The checks on a floor range (R149, R153). -/
def rangeOk (first last : Nat) : Bool := decide (first ≤ 63) && decide (last ≤ 63) && decide (first ≤ last)

/-- A state set names only the nine states: bits 9..15 are zero (R149, R182). -/
def statesOk (states : Option Word16) : Bool := states.all fun w => w.extractLsb' 9 7 = 0#7

/-- Whether an entry satisfies the attribute and state conditions of a MATCH (R150). -/
def Terminal.matches (t : Terminal) (care pattern : Byte) (states : Option Word16) : Bool :=
  decide ((t.attrs ^^^ pattern) &&& care = 0#8) && states.all fun w => w.getLsbD t.state.code

/-- The result set of a MATCH, ascending (R150). -/
def State.matchSet (s : State) (first last : Nat) (care pattern : Byte) (states : Option Word16) : List Nat :=
  Table.keysWhere s.terms fun a t =>
    decide (first ≤ floorOf a) && decide (floorOf a ≤ last) && t.matches care pattern states

/-- The union of a rising set with another. -/
def uniteAddrs (r latch : List Nat) : List Nat := r.foldr insertAddr latch

/-- The latch `latch` after combining with the result set `r` (R151). -/
def combineLatch (mode : Combine) (r latch : List Nat) : List Nat :=
  match mode with
  | .copy => uniteAddrs r []
  | .and => latch.filter fun a => a ∈ r
  | .or => uniteAddrs r latch
  | .xor => uniteAddrs (r.filter fun a => a ∉ latch) (latch.filter fun a => a ∉ r)

/-- Eight positions of a floor bitmap, from the address of bit 0 (R182). -/
def bitmapByte (latch : List Nat) (base : Nat) : Byte :=
  (List.range 8).foldl (fun b i => if base + i ∈ latch then b ||| BitVec.twoPow 8 i else b) 0#8

/-- The bitmap of a floor range: two bytes a floor, ports 15..8 and then 7..0 (R152, R182). -/
def bitmapOf (latch : List Nat) (first last : Nat) : List Byte :=
  (List.range (last + 1 - first)).flatMap fun i =>
    [bitmapByte latch (addrOf (first + i) 8), bitmapByte latch (addrOf (first + i) 0)]

/-- MATCH (R149 to R152). -/
def State.matchRequest (s : State) (first last : Nat) (care pattern : Byte) (states : Option Word16)
    (mode : Nat) : State × Reply :=
  match combineOf mode with
  | none => (s, .fail .outOfRange)
  | some m =>
    if rangeOk first last && statesOk states then
      let r := s.matchSet first last care pattern states
      let latch := combineLatch m r s.latch
      ({ s with latch := latch }, .ok (.matched first last r.length (bitmapOf latch first last) latch.length))
    else (s, .fail .outOfRange)

/-! ## BULK_UPDATE -/

/-- The four operations, numbered in this order (R153, R182). -/
inductive BulkOp where
  | set | clear | toggle | copy
  deriving DecidableEq, Repr

/-- The operation of an operation byte. -/
def bulkOpOf (b : Nat) : Option BulkOp :=
  match b with
  | 0 => some .set
  | 1 => some .clear
  | 2 => some .toggle
  | 3 => some .copy
  | _ => none

/-- The new value that an operation gives an attribute (R154). -/
def BulkOp.value (op : BulkOp) (old given : Bool) : Bool :=
  match op with
  | .set => true
  | .clear => false
  | .toggle => !old
  | .copy => given

/-- The addresses of the set positions of a bitmap that begins at a floor, ascending (R152, R153). -/
def bitmapAddrs (floor : Nat) : List Byte → List Nat
  | hi :: lo :: rest =>
    (((List.range 16).filter fun p => (hi ++ lo).getLsbD p).map fun p => addrOf floor p) ++
      bitmapAddrs (floor + 1) rest
  | _ => []

/-- The counts that a BULK_UPDATE gathers (R154). -/
structure BulkCounts where
  changed   : Nat
  unchanged : Nat
  skipped   : Nat
  offered   : Nat
  deriving DecidableEq, Repr

/-- How many attributes an attribute set names. -/
def attrCount (attrs : Byte) : Nat := ((List.range 8).filter fun i => attrs.getLsbD i).length

/-- One MASKED pair of an entry (R154, R156, R157). -/
def State.bulkMasked (s : State) (addr : Nat) (t : Terminal) (v : Bool) (c : BulkCounts) : State × BulkCounts :=
  if t.prov.masked = v then (s, { c with unchanged := c.unchanged + 1 })
  else (s.setMasked addr v, { c with
    changed := c.changed + 1, offered := c.offered + (if !v && t.offUnreported then 1 else 0) })

/-- One WATCH pair of an entry (R154, R158). -/
def State.bulkWatch (s : State) (addr : Nat) (t : Terminal) (v : Bool) (c : BulkCounts) : State × BulkCounts :=
  if t.prov.watch = v then (s, { c with unchanged := c.unchanged + 1 })
  else (s.setWatch addr v, { c with changed := c.changed + 1 })

/-- One address of a selection: MASKED, then WATCH, then the part-written attributes, which are skipped, as is
every attribute of an address without an entry (R154). -/
def State.bulkAddr (s : State) (attrs : Byte) (op : BulkOp) (values : Byte) (addr : Nat) (c : BulkCounts) :
    State × BulkCounts :=
  match s.term? addr with
  | none => (s, { c with skipped := c.skipped + attrCount attrs })
  | some t =>
    let (s1, c1) :=
      if attrs.getLsbD 1 then s.bulkMasked addr t (op.value t.prov.masked (values.getLsbD 1)) c else (s, c)
    let (s2, c2) :=
      if attrs.getLsbD 0 then s1.bulkWatch addr t (op.value t.prov.watch (values.getLsbD 0)) c1 else (s1, c1)
    (s2, { c2 with skipped := c2.skipped + attrCount (attrs &&& 0xFC#8) })

/-- A BULK_UPDATE carried out on a selection (R154). -/
def State.bulkApply (s : State) (attrs : Byte) (op : BulkOp) (values : Byte) (selection : List Nat) :
    State × Reply :=
  let (s1, c) := selection.foldl (fun acc a => acc.1.bulkAddr attrs op values a acc.2) (s, ⟨0, 0, 0, 0⟩)
  (s1, .ok (.bulk selection.length (attrCount attrs) c.changed c.unchanged c.skipped c.offered))

/-- BULK_UPDATE (R153, R154): source 0 is the latch, 1 the bitmap. The range checks stand before the check of
the bitmap's length (DESIGN CHOICE, assumption 37). -/
def State.bulkUpdate (s : State) (source : Nat) (attrs : Byte) (op : Nat) (values : Byte) (first last : Nat)
    (bitmap : List Byte) : State × Reply :=
  match source, bulkOpOf op with
  | 0, some o => s.bulkApply attrs o values s.latch
  | 1, some o =>
    s.checked
      [ (rangeOk first last, .outOfRange), (decide (bitmap.length = 2 * (last + 1 - first)), .badLength) ]
      fun s => s.bulkApply attrs o values (bitmapAddrs first bitmap)
  | _, _ => (s, .fail .outOfRange)

end Sys2Proof.Machine
end

