-- ==== Sys2Proof/Machine/FaultRequests.lean ====
section
/-! DEFINITION. The requests on fault records (07) and DECIDE_NOW (06). -/

namespace Sys2Proof.Machine

/-- A request that names one open record: ids outside 1..65535 and ids that no record holds are refused
(R143, R144, R145). -/
def State.withFault (s : State) (id : Nat) (run : FaultRecord → State × Reply) : State × Reply :=
  if id = 0 ∨ 65535 < id then (s, .fail .outOfRange)
  else match s.fault? id with
    | none => (s, .fail .notFound)
    | some f => run f

/-- FAULT_LIST (R145). -/
def State.faultList (s : State) (start : Nat) : State × Reply :=
  if 31 < start then (s, .fail .outOfRange)
  else (s, .ok (.faults s.faults.length s.faultCtl.nextId s.faultCtl.fullCount start
    ((s.faults.drop start).take 16)))

/-- FAULT_READ (R145). -/
def State.faultRead (s : State) (id : Nat) : State × Reply :=
  s.withFault id fun f => (s, .ok (.fault id f (sortIds (s.childFaults id))))

/-- FAULT_ACK (R143). -/
def State.faultAck (s : State) (id : Nat) : State × Reply :=
  s.withFault id fun f =>
    (s.modFault id fun f => { f with acked := true, reminder := none },
      .ok (.faultAcked id f.state f.reminders f.acked))

/-- FAULT_CLEAR (R144). -/
def State.faultClear (s : State) (id : Nat) : State × Reply :=
  s.withFault id fun _ =>
    let r := s.clearFault id
    (r.1, .ok (.faultCleared r.2.1 r.2.2))

/-- DECIDE_NOW (R114). -/
def State.decideNow (s : State) (id : Nat) : State × Reply :=
  if 63 < id then (s, .fail .outOfRange)
  else match s.domain? id with
    | none => (s, .fail .notFound)
    | some d => match s.closeWindow id with
      | some (s1, r) => (s1, .ok (.decided r))
      | none => (s, { status := .ok, clamped := false, noWindow := true, body := .noWindow d.window })

end Sys2Proof.Machine
end

