-- ==== Sys2Proof/Machine/Readings.lean ====
section
/-! DEFINITION. IDENTIFY, POWER_READ, COUNTERS_READ, NOTICE_MASK_WRITE and RESYNC (R180, R79, R47, R177, R161,
R61). -/

namespace Sys2Proof.Machine

/-- IDENTIFY (R180). -/
def State.identify (s : State) : State × Reply :=
  (s, .ok (.identity
    { edition := Config.firmwareEdition
      rate := s.link.rate
      uptime := s.now
      halted := s.halted
      loaded := s.store.imageLoaded
      saveCount := s.store.saveCount
      statics := s.terms.length
      learned := s.learned.length
      domains := s.domains.length
      floors := s.units.length
      faults := s.faults.length }))

/-- POWER_READ of a feeder channel (R79). -/
def State.readChannel (s : State) (channel : Nat) : State × Reply :=
  if 3 < channel then (s, .fail .outOfRange)
  else (s, .ok (.feederPower (s.feeder channel) (s.settings.calibration channel) (s.channelDomain channel)))

/-- POWER_READ of a floor (R79). -/
def State.readFloorPower (s : State) (floor : Nat) : State × Reply :=
  if 63 < floor then (s, .fail .outOfRange)
  else match s.unit? floor with
    | none => (s, .fail .notFound)
    | some _ => (s, .ok (.tapPower (s.tapPoint floor .a) (s.tapPoint floor .b) (s.tapLink floor .a)
        (s.tapLink floor .b)))

/-- POWER_READ: the selector's type is 0 for a channel and 1 for a floor (R79, R182). -/
def State.powerRead (s : State) (type sel : Nat) : State × Reply :=
  match type with
  | 0 => s.readChannel sel
  | 1 => s.readFloorPower sel
  | _ => (s, .fail .outOfRange)

/-- A class as COUNTERS_READ reports it (R166). -/
def ClassQueue.counts (q : ClassQueue) (capacity : Nat) : ClassCounts :=
  ⟨q.offered, q.sent, q.dropped, q.masked, q.queue.length, capacity, q.slot, q.slotCount⟩

/-- The four classes in their order. -/
def NoticeClass.every : List NoticeClass := [.critical, .major, .minor, .info]

/-- The link and class counters (R177). -/
def State.linkCounts (s : State) : LinkCounts where
  good := s.link.good
  crcErrors := s.link.crcErrors
  lengthErrors := s.link.lengthErrors
  abandoned := s.link.abandoned
  overruns := s.link.overruns
  riserBusy := s.riser.busy
  learnedFull := s.tally.learnedFull
  duplicates := s.tally.duplicates
  lateGasps := s.tally.lateGasps
  transients := s.tally.transients
  absorbed := s.tally.absorbed
  tableFull := s.faultCtl.fullCount
  classes := NoticeClass.every.map fun c => (s.notices.get c).counts c.capacity
  discipline := s.settings.discipline
  credits := if s.settings.discipline = 1 then some s.notices.credits else none
  floorMasked := (List.range 64).map fun f => (Table.get? s.notices.floorMasked f).getD 0

/-- COUNTERS_READ: a floor's nine counters are read and cleared, the link and class counters (selector 0xFF)
read (R47, R177). -/
def State.countersRead (s : State) (sel : Nat) : State × Reply :=
  if sel = 255 then (s, .ok (.linkCounters s.linkCounts))
  else if 63 < sel then (s, .fail .outOfRange)
  else match s.unit? sel with
    | none => (s, .fail .notFound)
    | some u => (s.modUnit sel fun u => { u with counters := zeroCounters },
        .ok (.unitCounters u.counters u.contact u.misses))

/-- The class enables of a byte's low four bits, CRITICAL in bit 0 (assumption 11). -/
def enablesOf (classes : BitVec 4) : ClassEnables :=
  ⟨classes.getLsbD 0, classes.getLsbD 1, classes.getLsbD 2, classes.getLsbD 3⟩

/-- NOTICE_MASK_WRITE (R161). -/
def State.noticeMaskWrite (s : State) (floors : BitVec 64) (classes : BitVec 4) : State × Reply :=
  ({ s with floorMask := floors, enables := enablesOf classes }, .ok (.masks floors (enablesOf classes)))

/-- The scope of a RESYNC; none when its type, group or floor is out of range (R61, R182). For all floors the
second byte is not looked at (DESIGN CHOICE, assumption 31). -/
def scopeOf (type which : Nat) : Option Scope :=
  match type with
  | 0 => some .all
  | 1 => if which ≤ 7 then some (.group which) else none
  | 2 => if which ≤ 63 then some (.one which) else none
  | _ => none

/-- RESYNC: refused, or in hand with its scope as the pending CLEAR (R61). -/
def State.resync (s : State) (type which : Nat) : State × Option Reply :=
  match scopeOf type which with
  | none => (s, some (.fail .outOfRange))
  | some scope =>
    if s.sched.pendingClear.isSome then (s, some (.fail .busy))
    else (s.modSched fun c => { c with pendingClear := some scope }, none)

end Sys2Proof.Machine
end

