-- ==== Sys2Proof/Machine/Wire.lean ====
section
/-! DEFINITION. The bytes of the frames that the part sends on the host line (R171, R175, R182). The order of
the fields is that in which the owning rule lists them (assumption 10). -/

namespace Sys2Proof.Machine

/-! ## Fields -/

/-- A one-byte count, number or named value (R182). -/
def u8 (n : Nat) : List Byte := [BitVec.ofNat 8 n]
/-- A two-byte integer (R182). -/
def u16 (n : Nat) : List Byte := split16 (BitVec.ofNat 16 n)
/-- A four-byte integer (R182). -/
def u32 (n : Nat) : List Byte := split32 (BitVec.ofNat 32 n)
/-- A signed two-byte value: an optical power (R182). -/
def i16 (n : Int) : List Byte := split16 (BitVec.ofInt 16 n)
/-- A signed four-byte value: a setting (R182). -/
def i32 (n : Int) : List Byte := split32 (BitVec.ofInt 32 n)
/-- A flag, one byte (assumption 10). -/
def flag (b : Bool) : List Byte := [flagByte b]
/-- An optional field: the presence byte, then the value bytes, zero when absent (R182). -/
def opt {α : Type} (width : Nat) (f : α → List Byte) : Option α → List Byte
  | none => 0#8 :: List.replicate width 0#8
  | some v => 1#8 :: f v
/-- A list: a count byte, then the entries (R182). -/
def listOf {α : Type} (l : List α) (f : α → List Byte) : List Byte := u8 l.length ++ l.flatMap f
/-- A terminal as subject: address, floor and port (R103, R104, R105). -/
def addrFields (a : Nat) : List Byte := u16 a ++ u8 (floorOf a) ++ u8 (portOf a)

/-! ## Named values, numbered from 0 in the order of their tables (R182) -/

/-- Levels. -/
def Level.code : Level → Nat
  | .splitter => 0
  | .segment => 1
  | .feeder => 2
/-- Taps. -/
def Tap.code : Tap → Nat
  | .a => 0
  | .b => 1
/-- Causes (R82). -/
def Cause.code : Cause → Nat
  | .dark => 0
  | .power => 1
/-- Event kinds as the learned table lists them (01 1.3). -/
def eventCode : EventKind → Nat
  | .gasp => 0
  | .dark => 1
  | .light => 2
  | .unitGasp => 3
/-- Fault kinds. -/
def FaultKind.code : FaultKind → Nat
  | .fibreCut => 0
  | .powerCut => 1
  | .feederLoss => 2
  | .floorPower => 3
  | .unitLost => 4
/-- Fault states. -/
def FaultState.code : FaultState → Nat
  | .opened => 0
  | .clearing => 1
/-- Contact states, ABSENT being 0 (02 2.7). -/
def Contact.code : Contact → Nat
  | .present => 1
  | .active => 2
  | .retrying => 3
  | .silent => 4
/-- Level states (04 4.1). -/
def LevelState.code : LevelState → Nat
  | .unknown => 0
  | .normal => 1
  | .low => 2
  | .los => 3
/-- The class byte (R171). -/
def NoticeClass.code : NoticeClass → Nat
  | .critical => 0
  | .major => 1
  | .minor => 2
  | .info => 3
/-- Overflow slot states (R165). -/
def Slot.code : Slot → Nat
  | .empty => 0
  | .armed => 1
  | .due => 2
/-- TERMINAL_OFF reasons. -/
def OffReason.code : OffReason → Nat
  | .window => 0
  | .released => 1
  | .unmasked => 2
/-- Restore paths. -/
def RestorePath.code : RestorePath → Nat
  | .holdDown => 0
  | .baseline => 1
/-- FAULT_CLOSED reasons. -/
def CloseReason.code : CloseReason → Nat
  | .cleared => 0
  | .clearingLimit => 1
  | .unitReturned => 2
  | .host => 3
/-- Start kinds. -/
def StartKind.code : StartKind → Nat
  | .powerOn => 0
  | .pin => 1
  | .soft => 2
/-- Image statuses. -/
def ImageStatus.code : ImageStatus → Nat
  | .loaded => 0
  | .checkFailed => 1
  | .kept => 2
/-- Decisions. -/
def Decision.code : Decision → Nat
  | .fibreCut => 0
  | .powerCut => 1
  | .individual => 2
  | .none => 3
/-- Off classes: 1 MAJOR, 2 MINOR (R182). -/
def OffClass.code : OffClass → Nat
  | .major => 1
  | .minor => 2
/-- Status codes (R175). -/
def Status.code : Status → Nat
  | .ok => 0
  | .unknownKind => 1
  | .badLength => 2
  | .outOfRange => 3
  | .notFound => 4
  | .badLevel => 5
  | .tableFull => 6
  | .domainFull => 7
  | .inUse => 8
  | .busy => 9
  | .halted => 10
/-- A line rate in bit/s (R181). -/
def LineRate.bps : LineRate → Nat
  | .r57600 => 57600
  | .r115200 => 115200
  | .r230400 => 230400
  | .r460800 => 460800
/-- The class enables in one byte, CRITICAL in bit 0 (assumption 11). -/
def ClassEnables.byte (e : ClassEnables) : Byte :=
  (if e.critical then 1#8 else 0#8) ||| (if e.major then 2#8 else 0#8) ||| (if e.minor then 4#8 else 0#8) |||
    (if e.info then 8#8 else 0#8)

/-! ## Notices (R171; the fields of R74, R75, R101, R103 to R105, R146, R187, R10) -/

/-- The subject of a power notice: a channel, or a floor and a tap. -/
def PowerSubject.fields : PowerSubject → List Byte
  | .feeder c => u8 c
  | .tap f t => u8 f ++ u8 t.code

/-- The subject of a fault notice: a domain id and its level, or a floor. -/
def FaultSubject.fields : FaultSubject → List Byte
  | .domain i l => u8 i ++ u8 l.code
  | .floor f => u8 f

/-- The WATCH sub-kind and the count or held state that it carries. -/
def WatchKind.fields : WatchKind → List Byte
  | .gaspRecovered n => u8 0 ++ u8 n
  | .transient st => u8 1 ++ u8 st.code
  | .flap n => u8 2 ++ u8 n

/-- The kind byte of a notice (R171). -/
def NoticeBody.kindByte : NoticeBody → Byte
  | .started .. => 0x40#8
  | .configLost _ => 0x41#8
  | .baselineDone .. => 0x42#8
  | .unprovisioned .. => 0x43#8
  | .terminalOff .. => 0x44#8
  | .terminalRestored .. => 0x45#8
  | .watch .. => 0x46#8
  | .powerLow (.feeder _) .. => 0x47#8
  | .powerLow (.tap ..) .. => 0x48#8
  | .levelRecovered .. => 0x49#8
  | .faultOpened .. => 0x4A#8
  | .faultReminder .. => 0x4B#8
  | .faultClosed .. => 0x4C#8
  | .tableFull .. => 0x4D#8

/-- An off cause and an off time: no presence bytes, since a reported entry has both (R82). -/
def offFields (cause : Option Cause) (time : Option Uptime) : List Byte :=
  u8 ((cause.map Cause.code).getD 0) ++ split32 (time.getD 0)

/-- The fields of a notice after its class and uptime. The channel of FAULT_OPENED is an optional field with a
presence byte (R146, R182; assumption 30). The subject of LEVEL_RECOVERED says by its first byte whether a
channel (0) or a floor and a tap (1) follows, a channel padded to two bytes (R75; assumption 33). WATCH sends the
address, floor, port and label before its sub-kind and count, as the other notices of a terminal do (R105, DESIGN
CHOICE, assumption 43). -/
def NoticeBody.fields : NoticeBody → List Byte
  | .started k i n st d f r =>
    u8 k.code ++ u8 i.code ++ u32 n ++ u16 st ++ u8 d ++ u8 f ++ u32 r.bps
  | .configLost e => flag e
  | .baselineDone f n c =>
    u8 f ++ u8 n ++ u8 c.lit ++ u8 c.restored ++ u8 c.dark ++ u8 c.resumed ++ u8 c.raised ++ u8 c.unchanged
  | .unprovisioned a k t l => addrFields a ++ u8 (eventCode k) ++ split32 t ++ flag l
  | .terminalOff a l c t r st => addrFields a ++ split16 l ++ offFields c t ++ u8 r.code ++ u8 st.code
  | .terminalRestored a l c t p n => addrFields a ++ split16 l ++ offFields c t ++ u8 p.code ++ u8 n
  | .watch a l k st t => addrFields a ++ split16 l ++ k.fields ++ u8 st.code ++ split32 t
  | .powerLow sj d e l av p => sj.fields ++ u8 d ++ u8 e.code ++ u8 l.code ++ i16 av ++ i16 p
  | .levelRecovered sj d l av p =>
    (match sj with | .feeder c => u8 0 ++ u8 c ++ u8 0 | .tap f t => u8 1 ++ u8 f ++ u8 t.code) ++
      u8 d ++ u8 l.code ++ i16 av ++ i16 p
  | .faultOpened i k sj ch t a o c h =>
    u16 i ++ u8 k.code ++ sj.fields ++ opt 1 u8 ch ++ split32 t ++ u16 a ++
      u16 o ++ u8 c ++ flag h
  | .faultReminder i k sj st t a o c n =>
    u16 i ++ u8 k.code ++ sj.fields ++ u8 st.code ++ split32 t ++ u16 a ++ u16 o ++ u8 c ++ u8 n
  | .faultClosed i k sj r h t a n u ack m =>
    u16 i ++ u8 k.code ++ sj.fields ++ u8 r.code ++ flag h ++ split32 t ++ u16 a ++ u16 n ++ u8 u ++ flag ack ++ u8 m
  | .tableFull k sj n => u8 k.code ++ sj.fields ++ u16 n

/-! ## Replies -/

/-- The level, averages and counts of a measuring point (R79). -/
def Point.head (p : Point) : List Byte := u8 p.level.code ++ opt 2 i16 p.average

/-- The runtime record and provisioned fields of TERMINAL_READ (R7). A last cause of none is sent as an absent optional
field, under a presence byte (DESIGN CHOICE, assumption 42), and so is a time of last change of none (DESIGN CHOICE,
assumption 54). -/
def Terminal.fields (t : Terminal) : List Byte :=
  u8 t.prov.domain ++ u8 t.prov.offClass.code ++ flag t.prov.notify ++ split16 t.prov.label ++
    flag t.prov.masked ++ flag t.prov.watch ++
    u8 t.state.code ++ [t.attrs] ++ opt 1 (fun st => u8 st.code) t.prior ++ opt 2 u16 t.link ++
    opt 4 u32 t.gaspHold ++ opt 4 u32 t.holdDown ++ u8 t.flaps ++ u8 t.gaspRecovered ++
    opt 4 split32 t.lastChange ++ opt 1 (fun c => u8 c.code) t.lastCause

/-- The host-written fields of a domain (R18, R20). -/
def DomainFields.fields (id : Nat) (d : DomainFields) : List Byte :=
  u8 id ++ u8 d.level.code ++ opt 1 u8 d.parent ++ opt 1 u8 d.channel ++
    opt 2 (fun t => u8 t.1 ++ u8 t.2.code) d.tap

/-- A window state with its times while OPEN and its fault while DECIDED (R20, R107). Start and end, present
under one condition, share one presence byte (assumption 30). -/
def Window.fields (w : Window) : List Byte :=
  match w with
  | .quiet => u8 0 ++ opt 8 split32 (none : Option Uptime) ++ opt 2 u16 none
  | .open a b _ => u8 1 ++ opt 8 (fun _ => split32 a ++ split32 b) (some ()) ++ opt 2 u16 none
  | .decided x => u8 2 ++ opt 8 split32 (none : Option Uptime) ++ opt 2 u16 (some x)

/-- One record of FAULT_LIST (R145). -/
def FaultRecord.listed (id : Nat) (f : FaultRecord) : List Byte :=
  u16 id ++ u8 f.kind.code ++ u8 f.subject ++ u8 f.state.code ++ opt 2 u16 f.parent ++ flag f.held ++
    flag f.announced ++ flag f.acked

/-- Every field of a record, as FAULT_READ carries it (R145). -/
def FaultRecord.fields (id : Nat) (f : FaultRecord) (children : List Nat) : List Byte :=
  u16 id ++ u8 f.kind.code ++ u8 f.subject ++ u8 f.state.code ++ split32 f.openedAt ++ u16 f.affected ++
    u16 f.off ++ u8 f.children ++ opt 2 u16 f.parent ++ flag f.held ++ flag f.announced ++ flag f.acked ++
    u8 f.reminders ++ split32 f.lastProgress ++ opt 4 u32 f.clearing ++ opt 4 u32 f.reminder ++
    listOf children u16

/-- The outcome of a close, as DECIDE_NOW carries it (R114): two counts at the end, released and folded at a
SPLITTER, linked and offered above. F and P share one presence byte, as do the fault id and its held mark
(assumption 30). -/
def CloseReport.fields (r : CloseReport) : List Byte :=
  u8 r.level.code ++ split32 r.start ++ split32 r.stop ++ u8 r.m ++ u8 r.nd ++ u8 r.ng ++
    opt 4 (fun p => u16 p.1 ++ u16 p.2) r.shares ++ u8 r.decision.code ++ u8 r.step ++
    opt 3 (fun x => u16 x.1 ++ flag x.2) r.recorded ++
    (if r.level = .splitter then u8 r.released ++ u8 r.folded else u8 r.linked ++ u8 r.offered)

/-- The nine counters (R46). -/
def UnitCounters.fields (c : UnitCounters) : List Byte :=
  u16 c.polls ++ u16 c.good ++ u16 c.noReply ++ u16 c.parity ++ u16 c.check ++ u16 c.wrongAddress ++
    u16 c.misses ++ u16 c.events ++ u16 c.unknown

/-- One class of COUNTERS_READ (R166). -/
def ClassCounts.fields (c : ClassCounts) : List Byte :=
  u32 c.offered ++ u32 c.sent ++ u16 c.dropped ++ u16 c.masked ++ u8 c.queued ++ u8 c.capacity ++
    u8 c.slot.code ++ u16 c.slotCount

/-- The link and class counters (R177), the four credits under one presence byte (assumption 30). -/
def LinkCounts.fields (c : LinkCounts) : List Byte :=
  u16 c.good ++ u16 c.crcErrors ++ u16 c.lengthErrors ++ u16 c.abandoned ++ u16 c.overruns ++
    u16 c.riserBusy ++ u16 c.learnedFull ++ u16 c.duplicates ++ u16 c.lateGasps ++ u16 c.transients ++
    u16 c.absorbed ++ u16 c.tableFull ++ c.classes.flatMap ClassCounts.fields ++ u8 c.discipline.toNat ++
    opt 4 (fun k => u8 k.critical ++ u8 k.major ++ u8 k.minor ++ u8 k.info) c.credits ++
    c.floorMasked.flatMap u16

/-- The settings in number order (R179, R182). -/
def Settings.fields (c : Settings) : List Byte := (List.range 33).flatMap fun i => i32 (c.get (i + 1))

/-- The fields of an OK reply after its status byte, in the order of the rule that owns the request.
FLOOR_UNIT_READ sends the contact state always, ABSENT being 0, and what else it has for a provisioned floor only
under one presence byte (R23; assumption 30). The load outcome of IDENTIFY is the image status 0 or 1 (R180,
R182). TERMINAL_WRITE's created-or-replaced flag is 1 for created and 0 for replaced (R3; DESIGN CHOICE,
assumption 50). FLOOR_UNIT_WRITE's case comes first, as a flag byte, 1 for newly provisioned and 0 for provisioned
already (R21; DESIGN CHOICE, assumption 51). The last value and the last code of a feeder channel have a presence
byte each (R79; DESIGN CHOICE, assumption 52), and the calibration value is sent as 2 bytes, as an optical power is
(R79; DESIGN CHOICE, assumption 56). -/
def ReplyBody.fields : ReplyBody → List Byte
  | .empty => []
  | .identity i =>
    u16 0x4C40 ++ u8 i.edition ++ u32 i.rate.bps ++ split32 i.uptime ++ flag i.halted ++ u8 (if i.loaded then 0 else 1) ++
      u32 i.saveCount ++ u16 i.statics ++ u8 i.learned ++ u8 i.domains ++ u8 i.floors ++ u8 i.faults
  | .terminalWritten a c l m => u16 a ++ flag c ++ flag l ++ u8 m
  | .terminal a t => u16 a ++ t.fields
  | .learned n st es =>
    u8 n ++ u8 st ++ listOf es fun e =>
      u16 e.1 ++ u8 e.2.floor ++ split32 e.2.first ++ u8 (eventCode e.2.last) ++ u8 e.2.age
  | .domainWritten i d m c => d.fields i ++ u8 m ++ u8 c
  | .domain i d m c => d.fields.fields i ++ u8 m ++ u8 c ++ d.window.fields
  | .floorWritten n c st => flag n ++ u8 c.code ++ u8 st
  | .floor u a b st =>
    flag u.isSome ++ opt 1 u8 a ++ opt 1 u8 b ++ u8 st ++ u8 ((u.map fun u => u.contact.code).getD 0) ++
      opt 8 (fun u => u8 u.misses ++ opt 4 split32 u.gaspTime ++ flag u.baseline ++ flag u.resync) u
  | .settingsApplied es => listOf es fun e => u8 e.1 ++ i32 e.2
  | .settings c l n sv => c.fields ++ u8 l ++ u8 n ++ flag sv
  | .matched f l n b z => u8 f ++ u8 l ++ u16 n ++ b ++ u16 z
  | .bulk n k c u sk o => u16 n ++ u8 k ++ u16 c ++ u16 u ++ u16 sk ++ u16 o
  | .faults n nx fu st es => u8 n ++ u16 nx ++ u16 fu ++ u8 st ++ listOf es fun e => e.2.listed e.1
  | .fault i f ch => f.fields i ch
  | .faultAcked i st n al => u16 i ++ u8 st.code ++ u8 n ++ flag al
  | .faultCleared n k => u8 n ++ u16 k
  | .decided r => r.fields
  | .noWindow w => (match w with | .quiet => u8 0 | .open .. => u8 1 | .decided _ => u8 2) ++ opt 2 u16 w.fault?
  | .feederPower f cal d =>
    f.point.head ++ opt 2 i16 f.point.last ++ opt 2 (fun c => u16 c.toNat) f.code ++ u8 f.point.lows ++
      u8 f.samples ++ u16 f.rails ++ i16 cal ++ opt 1 u8 d
  | .tapPower a b da db =>
    (a.head ++ opt 2 i16 a.last ++ u8 a.lows ++ opt 1 u8 da) ++
      (b.head ++ opt 2 i16 b.last ++ u8 b.lows ++ opt 1 u8 db)
  | .unitCounters c ct m => c.fields ++ u8 ct.code ++ u8 m
  | .linkCounters c => c.fields
  | .masks f c => split64 f ++ [c.byte]
  | .resynced t w n => [t, w] ++ u8 n
  | .saved n st d f => u32 n ++ u16 st ++ u8 d ++ u8 f

/-- The status byte: the code in bits 4..0, CLAMPED in bit 7, NO_WINDOW in bit 6 (R175). -/
def Reply.statusByte (r : Reply) : Byte :=
  BitVec.ofNat 8 r.status.code ||| (if r.clamped then 0x80#8 else 0#8) ||| (if r.noWindow then 0x40#8 else 0#8)

/-! ## Whole frames -/

/-- The frame on the line with its sync byte: a reply carries its request's kind plus 0x80 and its tag, a
notice tag 0, its class byte and its uptime (R171). The reply to a kind byte of 0x80 or above (R172) has its kind
plus 0x80 modulo 256 (DESIGN CHOICE, assumption 47). -/
def TxFrame.bytes : TxFrame → List Byte
  | .reply k tag r => 0xA5#8 :: frameAfterSync (k + 0x80#8) tag (r.statusByte :: r.body.fields)
  | .notice c n =>
    0xA5#8 :: frameAfterSync n.body.kindByte 0#8 (u8 c.code ++ split32 n.uptime ++ n.body.fields)
  | .overflow c n d t => 0xA5#8 :: frameAfterSync 0x4E#8 0#8 (u8 255 ++ split32 t ++ u8 c.code ++ u16 n ++ u16 d)
  | .partGasp p =>
    0xA5#8 :: frameAfterSync 0x4F#8 0#8
      (u8 255 ++ split32 p.uptime ++ p.queued.flatMap u8 ++ p.drops.flatMap u16 ++ u8 p.faults ++ flag p.saving)

end Sys2Proof.Machine
end

