-- ==== Sys2Proof/Machine/Store.lean ====
section
/-! DEFINITION. The configuration image and its check (11.1), CONFIG_SAVE and its completion (R184, R185). -/

namespace Sys2Proof.Machine

/-- The provisioned content in RAM, with a save count (11.1). -/
def State.image (s : State) (saveCount : Nat) : Image where
  terms := s.terms.map fun e => (e.1, e.2.prov)
  domains := s.domains.map fun e => (e.1, e.2.fields)
  floors := s.units.map Prod.fst
  settings := s.settings
  floorMask := s.floorMask
  enables := s.enables
  saveCount := saveCount

/-- The bytes of an image without its check, in the order of the table of 11.1 (assumption 12). -/
def Image.bytes (i : Image) : List Byte :=
  u16 i.terms.length ++ (i.terms.flatMap fun e =>
    u16 e.1 ++ u8 e.2.domain ++ u8 e.2.offClass.code ++ flag e.2.notify ++ split16 e.2.label ++
      flag e.2.masked ++ flag e.2.watch) ++
  u8 i.domains.length ++ (i.domains.flatMap fun e => e.2.fields e.1) ++
  ((List.range 8).map fun g =>
    (List.range 8).foldl (fun b p => if g * 8 + p ∈ i.floors then b ||| BitVec.twoPow 8 p else b) 0#8) ++
  i.settings.fields ++ split64 i.floorMask ++ [i.enables.byte] ++ u32 i.saveCount

/-- An image as a completed save leaves it: with its CRC-32 (R184, R185). -/
def Flash.ofImage (i : Image) : Flash := .written i (crc32 i.bytes)

/-- The image that a load finds: one whose stored check equals the CRC-32 over it (R184). -/
def Flash.load : Flash → Option Image
  | .erased => none
  | .cut => none
  | .written i crc => if crc32 i.bytes = crc then some i else none

/-- CONFIG_SAVE is taken: the copy carries the save count plus one, and the image area is being written
(R184, R185, R186). The request goes in hand. -/
def State.beginSave (s : State) : State :=
  s.modStore fun c => { c with flash := .cut, saving := some (s.image (inc32 c.saveCount)) }

/-- The reply to a completed save (R185). -/
def Image.savedReply (i : Image) : Reply :=
  .ok (.saved i.saveCount i.terms.length i.domains.length i.floors.length)

/-- The save's last byte is written: the image stands with its check, and the save count in RAM becomes that
of the image (R185). -/
def State.storeImage (s : State) (i : Image) : State :=
  s.modStore fun c => { c with flash := .ofImage i, saving := none, saveCount := i.saveCount }

end Sys2Proof.Machine
end

