-- ==== Sys2Proof/Machine/HostLink.lean ====
section
/-! DEFINITION. The host link controller (10): taking requests, the receiver and the transmitter. -/

namespace Sys2Proof.Machine

/-! ## Taking a request -/

/-- The requests marked "refused during a save" in the catalogue, by kind (10.4). -/
def refusedInSave (kind : Byte) : Bool :=
  kind.toNat ∈ [2, 3, 6, 7, 9, 10, 12, 23, 25]

/-- The kinds that HALTED does not refuse: IDENTIFY and SOFT_RESTART (R174 check 1). -/
def answeredInHalted (kind : Byte) : Bool := decide (kind = 1#8) || decide (kind = 26#8)

/-- What the form of a request refuses: an unknown kind or a wrong length (R174 checks 2 and 3). -/
def formFailure : Request → Option Status
  | .unknownKind .. => some .unknownKind
  | .badLength _ => some .badLength
  | _ => none

/-- What a flag, presence or class-enable byte outside its values refuses (assumption 9). -/
def choiceFailure : Request → Option Status
  | .badChoice _ => some .outOfRange
  | _ => none

/-- Checks 1 to 4 of a taking, in order, and then the bytes that name no choice (R174). -/
def State.gate (s : State) (r : Request) : Option Status :=
  if s.halted && !answeredInHalted r.kind then some .halted
  else match formFailure r with
    | some st => some st
    | none =>
      if s.store.saving.isSome && refusedInSave r.kind then some .busy else choiceFailure r

/-- A request that is answered at its taking. -/
def answered (p : State × Reply) : State × Option Reply := (p.1, some p.2)

/-- A request that has passed checks 1 to 4 is carried out by its owning rule; none when it goes in hand
(R174). -/
def State.carryOut (s : State) : Request → State × Option Reply
  | .identify => answered s.identify
  | .terminalWrite a d c n l m w => answered (s.terminalWrite a.toNat d.toNat c n l m w)
  | .terminalRemove a => answered (s.terminalRemove a.toNat)
  | .terminalRead a => answered (s.terminalRead a.toNat)
  | .learnedList p => answered (s.learnedList p.toNat)
  | .domainWrite i l p c t =>
    answered (s.domainWrite i.toNat l.toNat (p.map BitVec.toNat) (c.map BitVec.toNat)
      (t.map fun x => (x.1.toNat, x.2.toNat)))
  | .domainRemove i => answered (s.domainRemove i.toNat)
  | .domainRead i => answered (s.domainRead i.toNat)
  | .floorUnitWrite f => answered (s.floorUnitWrite f.toNat)
  | .floorUnitRemove f => answered (s.floorUnitRemove f.toNat)
  | .floorUnitRead f => answered (s.floorUnitRead f.toNat)
  | .settingsWrite es => answered (s.settingsWrite es)
  | .settingsRead => answered s.settingsRead
  | .matchTerminals f l c p st m => answered (s.matchRequest f.toNat l.toNat c p st m.toNat)
  | .bulkUpdate so at_ op v f l b =>
    answered (s.bulkUpdate so.toNat at_ op.toNat v f.toNat l.toNat b)
  | .faultList p => answered (s.faultList p.toNat)
  | .faultRead i => answered (s.faultRead i.toNat)
  | .faultAck i => answered (s.faultAck i.toNat)
  | .faultClear i => answered (s.faultClear i.toNat)
  | .decideNow i => answered (s.decideNow i.toNat)
  | .powerRead t i => answered (s.powerRead t.toNat i.toNat)
  | .countersRead i => answered (s.countersRead i.toNat)
  | .noticeMaskWrite f c => answered (s.noticeMaskWrite f c)
  | .resync t w => s.resync t.toNat w.toNat
  | .configSave => (s.beginSave, none)
  | .softRestart => (s.modLink fun l => { l with restart := true }, some (.ok .empty))
  | .unknownKind .. => (s, some (.fail .unknownKind))
  | .badLength _ => (s, some (.fail .badLength))
  | .badChoice _ => (s, some (.fail .outOfRange))

/-- A request is taken (R174). -/
def State.take (s : State) (r : Request) : State × Option Reply :=
  match s.gate r with
  | some st => (s, some (.fail st))
  | none => s.carryOut r

/-- The condition of a request after its taking. -/
def conditionAfter : Option Reply → Condition
  | none => .inHand
  | some r => .answered r

/-- A request joins the buffer at its tail (R173). -/
def State.buffer (s : State) (e : Entry) : State := s.modLink fun l => { l with buffer := l.buffer ++ [e] }

/-- A request is taken and joins the buffer, answered or in hand. -/
def State.takeIntoBuffer (s : State) (tag : Byte) (r : Request) : State :=
  let (s1, reply) := s.take r
  s1.buffer ⟨tag, r, conditionAfter reply⟩

/-- A good frame arrives: an overrun with 4 requests buffered, else it is counted, joins the buffer and, with
no older request waiting and no SOFT_RESTART taken, is taken at once (R172, R174, R188). -/
def State.arrive (s : State) (tag : Byte) (r : Request) : State :=
  if s.link.buffer.length ≥ 4 then s.modLink fun l => { l with overruns := inc16 l.overruns }
  else
    let s1 := s.modLink fun l => { l with good := inc16 l.good }
    if s1.link.restart then s1.buffer ⟨tag, r, .waiting⟩ else s1.takeIntoBuffer tag r

/-- The in-hand requests of a kind become answered. -/
def answerInHand (which : Request → Bool) (reply : Request → Reply) (buffer : List Entry) : List Entry :=
  buffer.map fun e => if e.cond = .inHand ∧ which e.req then { e with cond := .answered (reply e.req) } else e

/-! ## The receiver -/

/-- The limit between two bytes of a frame, in milliseconds (R172). It runs from the sync byte on (DESIGN CHOICE,
assumption 53). -/
def gapLimit : Nat := 20

/-- A partial frame is abandoned (R172). -/
def State.abandonFrame (s : State) : State :=
  s.modLink fun l => { l with rx := none, abandoned := inc16 l.abandoned }

/-- A complete frame after its sync byte is judged on its CRC-16 (R171, R172). -/
def State.judgeFrame (s : State) (bytes : List Byte) : State :=
  let s1 := s.modLink fun l => { l with rx := none }
  let covered := bytes.take (bytes.length - 2)
  if split16 (crc16 covered) = bytes.drop (bytes.length - 2) then
    match covered with
    | _ :: kind :: tag :: fields => s1.arrive tag (parseRequest kind fields)
    | _ => s1
  else s1.modLink fun l => { l with crcErrors := inc16 l.crcErrors }

/-- A byte of a frame, after the sync byte (R172). -/
def State.frameByte (s : State) (bytes : List Byte) (byte : Byte) : State :=
  match bytes with
  | [] =>
    if byte.toNat < 2 ∨ 250 < byte.toNat then
      s.modLink fun l => { l with rx := none, lengthErrors := inc16 l.lengthErrors }
    else s.modLink fun l => { l with rx := some ⟨[byte], gapLimit⟩ }
  | l0 :: rest =>
    let all := l0 :: rest ++ [byte]
    if all.length = l0.toNat + 3 then s.judgeFrame all
    else s.modLink fun l => { l with rx := some ⟨all, gapLimit⟩ }

/-- A byte arrives on the host line (R172). The sync byte starts the gap limit, so that it bounds the time to the length
byte too (DESIGN CHOICE, assumption 53). -/
def State.hostByte (s : State) (byte : Byte) (stopOk : Bool) : State :=
  match s.link.rx with
  | none =>
    if stopOk && decide (byte = 0xA5#8) then s.modLink fun l => { l with rx := some ⟨[], gapLimit⟩ } else s
  | some p => if stopOk then s.frameByte p.bytes byte else s.abandonFrame

/-- Bytes arrive one after another, each with its stop bit. -/
def State.hostBytes (s : State) (bytes : List Byte) : State := bytes.foldl (fun s b => s.hostByte b true) s

/-- The gap limit is reached with a partial frame held (R172). -/
def State.gapTimeout (s : State) : State :=
  match s.link.rx with
  | none => s
  | some p => if p.gap = 0 then s.abandonFrame else s

/-! ## The transmitter -/

/-- A SOFT_RESTART has been taken and every request up to it has had its reply sent: only waiting requests
are buffered (R188). -/
def HostLink.restartDue (l : HostLink) : Bool := l.restart && l.buffer.all fun e => decide (e.cond = .waiting)

/-- The oldest answered request, its reply marked as being sent. -/
def beginReply : List Entry → Option (TxFrame × List Entry)
  | [] => none
  | e :: rest =>
    match e.cond with
    | .answered r => some (.reply e.req.kind e.tag r, { e with cond := .sending r } :: rest)
    | .waiting => (beginReply rest).map fun p => (p.1, e :: p.2)
    | .inHand => (beginReply rest).map fun p => (p.1, e :: p.2)
    | .sending _ => (beginReply rest).map fun p => (p.1, e :: p.2)

/-- The credit of a class (R163). -/
def Credits.get (k : Credits) : NoticeClass → Nat
  | .critical => k.critical
  | .major => k.major
  | .minor => k.minor
  | .info => k.info

/-- One credit of a class is used (R163). -/
def Credits.spend (k : Credits) : NoticeClass → Credits
  | .critical => { k with critical := k.critical - 1 }
  | .major => { k with major := k.major - 1 }
  | .minor => { k with minor := k.minor - 1 }
  | .info => { k with info := k.info - 1 }

/-- The head of a class queue, where there is one. -/
def NoticeQueues.head? (n : NoticeQueues) (c : NoticeClass) : Option Notice := (n.get c).queue.head?

/-- The highest class that has a notice and meets a condition. -/
def NoticeQueues.highest (n : NoticeQueues) (p : NoticeClass → Bool) : Option NoticeClass :=
  NoticeClass.every.find? fun c => (n.head? c).isSome && p c

/-- WEIGHTED: the highest class with a notice and a credit (R163). -/
def NoticeQueues.credited (n : NoticeQueues) : Option NoticeClass := n.highest fun c => decide (0 < n.credits.get c)

/-- A round ends when every class has used its credit or is empty, and the next one starts with full credits
(R163). -/
def NoticeQueues.endRound (n : NoticeQueues) : NoticeQueues :=
  if n.credited.isSome then n else { n with credits := fullCredits }

/-- At a frame boundary under WEIGHTED a round that has ended gives way to a new one, whatever frame the boundary
then sends (R163; DEDUCED, assumption 40). HALTED has no round: only rows 1 and 2 apply. -/
def State.endRound (s : State) : State :=
  if s.halted || decide (s.settings.discipline = 0) then s else s.modNotices NoticeQueues.endRound

/-- The class that the service discipline chooses, and the credits after it: under WEIGHTED its own credit is
used (R163). -/
def State.chooseClass (s : State) : Option (NoticeClass × Credits) :=
  if s.settings.discipline = 0 then (s.notices.highest fun _ => true).map fun c => (c, s.notices.credits)
  else s.notices.credited.map fun c => (c, s.notices.credits.spend c)

/-- The highest class whose overflow slot is DUE (R163, R165). -/
def NoticeQueues.dueClass (n : NoticeQueues) : Option NoticeClass :=
  NoticeClass.every.find? fun c => decide ((n.get c).slot = .due)

/-- Puts a frame on the line. -/
def State.beginFrame (s : State) (f : TxFrame) : State := s.modLink fun l => { l with tx := some f }

/-- Row 4 of R163: a class notice, which stays at the head of its queue (R164). -/
def State.beginNotice (s : State) : State :=
  match s.chooseClass with
  | none => s
  | some (c, k) =>
    match s.notices.head? c with
    | none => s
    | some n => (s.modNotices fun q => { q with credits := k }).beginFrame (.notice c n)

/-- Row 3 of R163: the OVERFLOW of a class, whose slot is EMPTY from the frame's beginning (R165). -/
def State.beginOverflow (s : State) (c : NoticeClass) : State :=
  (s.modNotices fun n => n.mod c fun q => { q with slot := .empty, slotCount := 0 }).beginFrame
    (.overflow c (s.notices.get c).slotCount (s.notices.get c).dropped s.now)

/-- Rows 3 and 4 of R163; none in HALTED, and none while a soft restart is due (assumption 28). -/
def State.beginOwn (s : State) : State :=
  if s.halted || s.link.restartDue then s
  else match s.notices.dueClass with
    | some c => s.beginOverflow c
    | none => s.beginNotice

/-- The first ready frame is begun, by the rows of R163 (R163, R176). -/
def State.beginReady (s : State) : State :=
  match s.notices.partGasp with
  | some p => (s.modNotices fun n => { n with partGasp := none }).beginFrame (.partGasp p)
  | none =>
    match beginReply s.link.buffer with
    | some (f, b) => (s.modLink fun l => { l with buffer := b }).beginFrame f
    | none => s.beginOwn

/-- At a frame boundary an ended round gives way, and the first ready frame is begun (R163, R176). -/
def State.txKick (s : State) : State := if s.link.tx.isSome then s else s.endRound.beginReady

/-- The request whose reply is on the line leaves the buffer (R173). -/
def HostLink.dropSending (l : HostLink) : HostLink :=
  { l with buffer := l.buffer.filter fun e => match e.cond with
      | .sending _ => false
      | .waiting => true
      | .inHand => true
      | .answered _ => true }

/-- A class notice has been sent: it leaves the head, it is counted, and an ARMED slot becomes DUE (R164,
R165). -/
def ClassQueue.sentOne (q : ClassQueue) : ClassQueue :=
  { q with
    queue := q.queue.tail
    sent := inc32 q.sent
    slot := if q.slot = .armed then .due else q.slot }

/-- A class notice's frame is cut: it leaves the head and counts as dropped; its slot does not move (R168). -/
def ClassQueue.cutOne (q : ClassQueue) : ClassQueue :=
  { q with queue := q.queue.tail, dropped := inc16 q.dropped }

/-- The last byte of the frame in progress leaves the line (R164, R173). -/
def State.frameEnds (s : State) : State :=
  let s1 := s.modLink fun l => { l with tx := none }
  match s.link.tx with
  | none => s1
  | some (.reply ..) => s1.modLink HostLink.dropSending
  | some (.notice c _) => s1.modNotices fun n => n.mod c ClassQueue.sentOne
  | some (.overflow ..) => s1
  | some (.partGasp _) => s1

/-- PART_GASP cuts the frame in progress short (R168). A slot that a drop armed again while its OVERFLOW frame was on
the line stays ARMED with its new count: the slot that the cut leaves EMPTY is the one whose count the frame carried
(R165, DESIGN CHOICE, assumption 46). -/
def State.cutFrame (s : State) : State :=
  let s1 := s.modLink fun l => { l with tx := none }
  match s.link.tx with
  | none => s1
  | some (.reply ..) => s1.modLink HostLink.dropSending
  | some (.notice c _) => s1.modNotices fun n => n.mod c ClassQueue.cutOne
  | some (.overflow ..) => s1
  | some (.partGasp _) => s1

/-! ## After every command -/

/-- The attention mark with what the controller observes of the line: set whenever the line is low (R41). In
HALTED the line is not acted on (R48). -/
def State.markSeen (s : State) : Bool := s.riser.mark || (s.attnLow && !s.halted)

/-- The controller observes the attention line (R41). -/
def State.observeLine (s : State) : State := s.modRiser fun r => { r with mark := s.markSeen }

/-- What follows every command at once: the window flag follows the OPEN domains (R56), the attention line is
observed (R41), the scheduler starts what comes next (03), and an idle transmitter begins a ready frame
(R163). Of several frames that one command makes ready, the first row of R163 is chosen once, at the end of the
command (DESIGN CHOICE, assumption 41). -/
def State.settle (s : State) : State := s.syncWindowFlag.observeLine.schedule.txKick

/-- A request row: its good frame arrives (assumption 7). -/
def State.request (s : State) (tag : Byte) (r : Request) : State := (s.arrive tag r).settle

end Sys2Proof.Machine
end

