-- ==== Sys2Proof/Machine/Start.lean ====
section
/-! DEFINITION. Entry to HALTED (R167 to R169) and the three starts (R187, R188). -/

namespace Sys2Proof.Machine

/-! ## HALTED -/

/-- The figures of PART_GASP, read after the frame in progress has been cut (R167, assumption 14). -/
def State.partGasp (s : State) (saving : Bool) : PartGasp where
  uptime := s.now
  queued := NoticeClass.every.map fun c => (s.notices.get c).queue.length
  drops := NoticeClass.every.map fun c => (s.notices.get c).dropped
  faults := s.faults.length
  saving := saving

/-- The riser transaction at the entry to HALTED: an attempt on the wire finishes there, a command not yet
sent is not sent (R48). -/
def Riser.halt (r : Riser) : Riser :=
  { r with txn := r.txn.filter fun t => decide (t.phase ≠ .toSend) }

/-- The part enters HALTED (R167): the frame in progress is cut and PART_GASP becomes ready (R168), a save
stops (R186), every request in hand is answered HALTED and a pending CLEAR is dropped (R169, R63), no sweep is
in progress (R60), and no further command is sent (R48). -/
def State.enterHalted (s : State) : State :=
  if s.halted then s
  else
    let s1 := s.cutFrame
    let s2 := s1.modNotices fun n => { n with partGasp := some (s1.partGasp s.store.saving.isSome) }
    let s3 := s2.modLink fun l =>
      { l with buffer := answerInHand (fun _ => true) (fun _ => .fail .halted) l.buffer }
    let s4 := s3.modStore fun c => { c with saving := none }
    let s5 := s4.modSched fun c => { c with pendingClear := none, sweep := none, sweepWanted := false }
    { s5.modRiser Riser.halt with halted := true }

/-- The supply monitor reads the supply-fail input (R187, R188). -/
def State.readSupply (s : State) (fails : Bool) : State := if fails then s.enterHalted else s

/-! ## Starts -/

/-- Every block as its chapter's reset rule gives, with the provisioning, settings and masks of an image
(R8, R13, R20, R23, R48, R64, R80, R106, R107, R147, R148, R170, R173, R177). -/
def startState (i : Image) (rate : LineRate) (store : Store) (fmus : Table Fmu) (pending : List Instr) :
    State where
  pending := pending
  clock := ⟨0, 0⟩
  link := newLink rate
  riser := newRiser
  sched := newSched i.settings.stepInterval.toNat
  units := i.floors.map fun f => (f, newUnit)
  feeders := newFeeders
  taps := []
  terms := i.terms.map fun e => (e.1, newTerminal e.2)
  learned := []
  tally := newTally i.settings.aging.toNat
  domains := i.domains.map fun e => (e.1, newDomain e.2)
  faults := []
  faultCtl := newFaultControl
  latch := []
  notices := newQueues
  floorMask := i.floorMask
  enables := i.enables
  settings := i.settings
  store := store
  halted := false
  fmus := fmus

/-- STARTED is offered (R187). -/
def State.offerStarted (s : State) (kind : StartKind) (image : ImageStatus) : State :=
  s.offer .info (.started kind image s.store.saveCount s.terms.length s.domains.length s.units.length s.link.rate)

/-- The host line rate of the straps (R181); true is high. -/
def rateOf (strap1 strap0 : Bool) : LineRate :=
  match strap1, strap0 with
  | false, false => .r57600
  | false, true => .r115200
  | true, false => .r230400
  | true, true => .r460800

/-- A power-on or pin reset: the straps are read, the image is checked and loaded, the start's notices are
offered, and the supply-fail input is read (R187). The FMUs and the commands still to come are outside the
part. -/
def State.coldStart (s : State) (kind : StartKind) (strap1 strap0 pfail : Bool) : State :=
  let rate := rateOf strap1 strap0
  match s.store.flash.load with
  | some i =>
    ((startState i rate ⟨s.store.flash, none, i.saveCount, true⟩ s.fmus s.pending).offerStarted kind
      .loaded).readSupply pfail
  | none =>
    (((startState emptyImage rate ⟨s.store.flash, none, 0, false⟩ s.fmus s.pending).offer .major
      (.configLost (decide (s.store.flash = .erased)))).offerStarted kind .checkFailed).readSupply pfail

/-- A soft restart keeps the provisioning, settings, masks, save count and line rate of RAM, and starts every
other state anew (R188). -/
def State.softStart (s : State) (pfail : Bool) : State :=
  ((startState (s.image s.store.saveCount) s.link.rate { s.store with saving := none } s.fmus
    s.pending).offerStarted .soft .kept).readSupply pfail

/-- The restart is performed when it is due and the transmitter is at a frame boundary (R188, assumption
28). -/
def State.restartIfDue (s : State) (pfail : Bool) : State :=
  if s.link.restartDue && s.link.tx.isNone then s.softStart pfail else s

end Sys2Proof.Machine
end

