-- ==== Sys2Proof/Machine/Events.lean ====
section
/-! DEFINITION. The timer expiries, the attention line, the end of a CLEAR, the end of a save, the FMUs'
events, and the passing of a millisecond. Each expiry acts only when its timer is due and the part is not
HALTED (assumption 2). -/

namespace Sys2Proof.Machine

/-! ## Expiries -/

/-- A change that HALTED withholds: no timer runs and no block acts there (R167). -/
def State.unlessHalted (s : State) (f : State → State) : State := if s.halted then s else f s

/-- The gap ends, and the next cycle begins from floor 0 (R54). -/
def State.gapExpires (s : State) : State :=
  if s.sched.gap = some 0 then s.modSched fun c => { c with gap := none }.newCycle else s

/-- The pacing level rises by one, and the step timer starts again below level 8 (R56). -/
def Sched.stepUp (c : Sched) (stepMs : Nat) : Sched :=
  let level := min (c.level + 1) 8
  { c with level := level, step := if level < 8 then some stepMs else none }

/-- The step timer expires (R56). -/
def State.stepExpires (s : State) : State :=
  if s.sched.step = some 0 then s.modSched fun c => c.stepUp s.stepMs else s

/-- The aging period expires: the learned table ages and a full period starts (R12, R13). -/
def State.agingExpires (s : State) : State :=
  if s.tally.aging = 0 then
    s.ageLearned.modTally fun c => { c with aging := s.settings.aging.toNat * 60000 }
  else s

/-- The end of an OPEN window is reached: it closes and is classified (R112). -/
def State.windowEnds (s : State) (id : Nat) : State :=
  match s.windowOf id with
  | .quiet => s
  | .decided _ => s
  | .open _ stop _ =>
    if later stop s.now then s
    else match s.closeWindow id with
      | some (s1, _) => s1
      | none => s

/-- A record's clearing timer expires (R140). -/
def State.clearingExpires (s : State) (id : Nat) : State :=
  if ((s.fault? id).map FaultRecord.clearing) = some (some 0) then s.clearingLimit id else s

/-- A record's reminder timer expires: FAULT_REMINDER is offered with the count after its rise, and the timer
starts again with the interval in force, or stays stopped when that is 0 (R142, R146). -/
def State.reminderExpires (s : State) (id : Nat) : State :=
  match s.fault? id with
  | none => s
  | some f =>
    if f.reminder = some 0 then
      let ms := s.settings.reminder.toNat * 60000
      (s.modFault id fun f =>
        { f with reminders := inc8 f.reminders, reminder := if ms = 0 then none else some ms }).offer
        (s.faultClass f.kind f.subject)
        (.faultReminder id f.kind (s.faultSubject f.kind f.subject) f.state f.openedAt f.affected f.off
          f.children (inc8 f.reminders))
    else s

/-! ## Attention, CLEAR and the save -/

/-- The attention line goes low: the mark is kept while a transaction is in progress; else the assertion is
told, and the mark is set again at once while the line is low (R41). HALTED does not act on it (R48). -/
def State.attention (s : State) : State :=
  if s.riser.txn.isSome then s.modRiser fun r => { r with mark := true }
  else (s.modRiser fun r => { r with mark := s.attnLow }).tellAttention

/-- How many provisioned floors lie in a scope (R61). -/
def State.scopeCount (s : State) (scope : Scope) : Nat := Table.countWhere s.units fun f _ => scope.covers f

/-- Whether a request is a RESYNC. -/
def isResync : Request → Bool
  | .resync .. => true
  | _ => false

/-- The reply to a RESYNC whose CLEAR has been sent, with the scope bytes as they came (R61, assumption 31). -/
def resyncReply (marked : Nat) : Request → Reply
  | .resync t w => .ok (.resynced t w marked)
  | _ => .ok .empty

/-- The CLEAR has been sent and the line has been quiet: the floors of its scope are marked, the RESYNC in
hand is answered, and the transaction ends (R33, R61). In HALTED it ends without marks (R63). It does not end
while the line is not quiet (R33). -/
def State.clearEnds (s : State) : State :=
  match s.riser.txn with
  | none => s
  | some t =>
    match t.order, t.phase with
    | .clear scope, .sent =>
      if !s.riser.quiet then s
      else if s.halted then s.endOnWire
      else
        (((s.markResync scope).modSched fun c => { c with pendingClear := none }).modLink fun l =>
          { l with buffer := answerInHand isResync (resyncReply (s.scopeCount scope)) l.buffer }).endTxn
          false
    | _, _ => s

/-- Whether a request is a CONFIG_SAVE. -/
def isSave : Request → Bool
  | .configSave => true
  | _ => false

/-- The save is complete: the image stands and the CONFIG_SAVE in hand is answered (R185). -/
def State.saveCompletes (s : State) : State :=
  match s.store.saving with
  | none => s
  | some i =>
    (s.storeImage i).modLink fun l =>
      { l with buffer := answerInHand isSave (fun _ => i.savedReply) l.buffer }

/-! ## Feeder inputs and FMUs -/

/-- One sample of every feeder channel, in the order 0 to 3 (R66; DESIGN CHOICE, assumption 32). -/
def State.feederSamples (s : State) (c0 c1 c2 c3 : BitVec 12) : State :=
  (((s.feederSample 0 c0).feederSample 1 c1).feederSample 2 c2).feederSample 3 c3

/-- An FMU records an event (R28); an FMU that has not started records nothing (assumption 5). -/
def State.fmuRecords (s : State) (fmu : Nat) (kind : EventKind) (port : Nat) : State :=
  s.modFmus fun t => Table.modify t fmu fun f => f.record kind port

/-- An FMU starts, strapped to a floor (R26, R32): only then what it held before is gone (assumption 48). -/
def State.fmuStarts (s : State) (fmu floor : Nat) (lit : BitVec 16) : State :=
  s.modFmus fun t => Table.put t fmu (newFmu floor lit)

/-! ## Time -/

/-- A running timer loses a millisecond, and stays at 0 until its expiry is told. -/
def countDown (timer : Option Nat) : Option Nat := timer.map fun n => n - 1

/-- The time base: uptime rises every 10 ms, modulo 2^32. -/
def Clock.tick (c : Clock) : Clock := if 9 ≤ c.ms then ⟨c.uptime + 1, 0⟩ else ⟨c.uptime, c.ms + 1⟩

/-- The two timers of an entry. -/
def Terminal.tick (t : Terminal) : Terminal :=
  { t with gaspHold := countDown t.gaspHold, holdDown := countDown t.holdDown }

/-- The two timers of a fault record. -/
def FaultRecord.tick (f : FaultRecord) : FaultRecord :=
  { f with clearing := countDown f.clearing, reminder := countDown f.reminder }

/-- The gap and step timers. -/
def Sched.tick (c : Sched) : Sched := { c with gap := countDown c.gap, step := countDown c.step }

/-- The timers that HALTED stops (R167). -/
def State.tickTimers (s : State) : State :=
  { s with
    clock := s.clock.tick
    terms := s.terms.map fun e => (e.1, e.2.tick)
    faults := s.faults.map fun e => (e.1, e.2.tick)
    sched := s.sched.tick
    tally := { s.tally with aging := s.tally.aging - 1 } }

/-- A millisecond passes for an attempt: a command that waits counts it only when the line was not quiet
(R24), an attempt on the wire always (R33). -/
def Txn.tick (quiet : Bool) (t : Txn) : Txn :=
  { t with elapsed := if t.phase = .toSend ∧ quiet = true then 0 else t.elapsed + 1 }

/-- A millisecond on the riser: a millisecond in which no character began has left the line quiet for two
character times (R24, assumption 6), and the attempt's time runs. -/
def Riser.tick (r : Riser) : Riser :=
  { r with txn := r.txn.map (Txn.tick !r.heard), quiet := !r.heard, heard := false }

/-- The receiver's gap limit runs in every state (R172). -/
def HostLink.tick (l : HostLink) : HostLink :=
  { l with rx := l.rx.map fun p => { p with gap := p.gap - 1 } }

/-- What passes whether or not the part is HALTED: the line times, the FMUs' record ages, and the end of an FMU's
silence on a line gone quiet (R25). -/
def State.tickLines (s : State) : State :=
  ((s.modRiser Riser.tick).modLink HostLink.tick).modFmus fun t =>
    fmusOnLine (!s.riser.heard) (t.map fun e => (e.1, e.2.older))

/-- A millisecond passes (assumption 1). -/
def State.tick (s : State) : State := s.tickLines.unlessHalted State.tickTimers

end Sys2Proof.Machine
end

