-- ==== Sys2Proof/Machine/ExecRequests.lean ====
section
/-! DEFINITION. The meanings of the request rows: each is the arrival of the request's good frame and its taking
(assumption 7). -/

namespace Sys2Proof.Machine

/-- IDENTIFY (R180). -/
def execIdentify (tag : Byte) (s : State) : Host.Outcome State Fault Refusal :=
  .next (s.request tag .identify)

/-- TERMINAL_WRITE (R3 to R5). -/
def execTerminalWrite (tag : Byte) (addr : Word16) (dom offClass : Byte) (notify : Bool) (label : Word16) (masked watch : Bool)
    (s : State) : Host.Outcome State Fault Refusal :=
  .next (s.request tag (.terminalWrite addr dom offClass notify label masked watch))

/-- TERMINAL_REMOVE (R6). -/
def execTerminalRemove (tag : Byte) (addr : Word16) (s : State) : Host.Outcome State Fault Refusal :=
  .next (s.request tag (.terminalRemove addr))

/-- TERMINAL_READ (R7). -/
def execTerminalRead (tag : Byte) (addr : Word16) (s : State) : Host.Outcome State Fault Refusal :=
  .next (s.request tag (.terminalRead addr))

/-- LEARNED_LIST (R15). -/
def execLearnedList (tag : Byte) (start : Byte) (s : State) : Host.Outcome State Fault Refusal :=
  .next (s.request tag (.learnedList start))

/-- DOMAIN_WRITE (R17, R18). -/
def execDomainWrite (tag : Byte) (id level : Byte) (parent channel : Option Byte) (tap : Option (Byte × Byte))
    (s : State) : Host.Outcome State Fault Refusal :=
  .next (s.request tag (.domainWrite id level parent channel tap))

/-- DOMAIN_REMOVE (R19). -/
def execDomainRemove (tag : Byte) (id : Byte) (s : State) : Host.Outcome State Fault Refusal :=
  .next (s.request tag (.domainRemove id))

/-- DOMAIN_READ (R20). -/
def execDomainRead (tag : Byte) (id : Byte) (s : State) : Host.Outcome State Fault Refusal :=
  .next (s.request tag (.domainRead id))

/-- FLOOR_UNIT_WRITE (R21). -/
def execFloorUnitWrite (tag : Byte) (floor : Byte) (s : State) : Host.Outcome State Fault Refusal :=
  .next (s.request tag (.floorUnitWrite floor))

/-- FLOOR_UNIT_REMOVE (R22). -/
def execFloorUnitRemove (tag : Byte) (floor : Byte) (s : State) : Host.Outcome State Fault Refusal :=
  .next (s.request tag (.floorUnitRemove floor))

/-- FLOOR_UNIT_READ (R23). -/
def execFloorUnitRead (tag : Byte) (floor : Byte) (s : State) : Host.Outcome State Fault Refusal :=
  .next (s.request tag (.floorUnitRead floor))

/-- SETTINGS_WRITE (R178). -/
def execSettingsWrite (tag : Byte) (entries : List (Byte × Word32))
    (s : State) : Host.Outcome State Fault Refusal :=
  .next (s.request tag (.settingsWrite entries))

/-- SETTINGS_READ (R179). -/
def execSettingsRead (tag : Byte) (s : State) : Host.Outcome State Fault Refusal :=
  .next (s.request tag .settingsRead)

/-- MATCH (R149 to R152). -/
def execMatchTerminals (tag : Byte) (first last care pattern : Byte) (states : Option Word16) (mode : Byte)
    (s : State) : Host.Outcome State Fault Refusal :=
  .next (s.request tag (.matchTerminals first last care pattern states mode))

/-- BULK_UPDATE (R153, R154). -/
def execBulkUpdate (tag : Byte) (source attrs op values first last : Byte) (bitmap : List Byte)
    (s : State) : Host.Outcome State Fault Refusal :=
  .next (s.request tag (.bulkUpdate source attrs op values first last bitmap))

/-- FAULT_LIST (R145). -/
def execFaultList (tag : Byte) (start : Byte) (s : State) : Host.Outcome State Fault Refusal :=
  .next (s.request tag (.faultList start))

/-- FAULT_READ (R145). -/
def execFaultRead (tag : Byte) (id : Word16) (s : State) : Host.Outcome State Fault Refusal :=
  .next (s.request tag (.faultRead id))

/-- FAULT_ACK (R143). -/
def execFaultAck (tag : Byte) (id : Word16) (s : State) : Host.Outcome State Fault Refusal :=
  .next (s.request tag (.faultAck id))

/-- FAULT_CLEAR (R144). -/
def execFaultClear (tag : Byte) (id : Word16) (s : State) : Host.Outcome State Fault Refusal :=
  .next (s.request tag (.faultClear id))

/-- DECIDE_NOW (R114). -/
def execDecideNow (tag : Byte) (id : Byte) (s : State) : Host.Outcome State Fault Refusal :=
  .next (s.request tag (.decideNow id))

/-- POWER_READ (R79). -/
def execPowerRead (tag : Byte) (type sel : Byte) (s : State) : Host.Outcome State Fault Refusal :=
  .next (s.request tag (.powerRead type sel))

/-- COUNTERS_READ (R47, R177). -/
def execCountersRead (tag : Byte) (sel : Byte) (s : State) : Host.Outcome State Fault Refusal :=
  .next (s.request tag (.countersRead sel))

/-- NOTICE_MASK_WRITE (R161). -/
def execNoticeMaskWrite (tag : Byte) (floors : BitVec 64) (classes : BitVec 4)
    (s : State) : Host.Outcome State Fault Refusal :=
  .next (s.request tag (.noticeMaskWrite floors classes))

/-- RESYNC (R61). -/
def execResync (tag : Byte) (type which : Byte) (s : State) : Host.Outcome State Fault Refusal :=
  .next (s.request tag (.resync type which))

/-- CONFIG_SAVE (R185). -/
def execConfigSave (tag : Byte) (s : State) : Host.Outcome State Fault Refusal :=
  .next (s.request tag .configSave)

/-- SOFT_RESTART (R188). -/
def execSoftRestart (tag : Byte) (s : State) : Host.Outcome State Fault Refusal :=
  .next (s.request tag .softRestart)

/-- UNKNOWN_KIND_REQUEST: a good frame with a kind byte outside 0x01..0x1A (R174). -/
def execUnknownKindRequest (kind tag : Byte) (fields : List Byte)
    (s : State) : Host.Outcome State Fault Refusal :=
  .next (s.request tag (parseRequest kind fields))

end Sys2Proof.Machine
end

