-- ==== Sys2Proof/Machine/ExecEvents.lean ====
section
/-! DEFINITION. The meanings of the event rows. Each ends with `settle`: the scheduler and the transmitter go on
at once. -/

namespace Sys2Proof.Machine

/-- HOST_FRAME_RECEIVED: the sync byte and the bytes after it arrive (R172). -/
def execHostFrameReceived (bytes : List Byte) (s : State) : Host.Outcome State Fault Refusal :=
  .next ((s.hostBytes (0xA5#8 :: bytes)).settle)

/-- HOST_FRAME_GAP_TIMEOUT (R172). -/
def execHostFrameGapTimeout (s : State) : Host.Outcome State Fault Refusal :=
  .next s.gapTimeout.settle

/-- FRAME_BOUNDARY: the frame in progress has left the line, and `settle` begins the next (R163, R164). -/
def execFrameBoundary (s : State) : Host.Outcome State Fault Refusal :=
  .next s.frameEnds.settle

/-- CONFIG_SAVE_COMPLETE (R185). -/
def execConfigSaveComplete (s : State) : Host.Outcome State Fault Refusal :=
  .next s.saveCompletes.settle

/-- SOFT_RESTART_PERFORMED (R188). -/
def execSoftRestartPerformed (pfail : Bool) (s : State) : Host.Outcome State Fault Refusal :=
  .next ((s.restartIfDue pfail).settle)

/-- POWER_ON_RESET (R187). -/
def execPowerOnReset (strap1 strap0 pfail : Bool) (s : State) : Host.Outcome State Fault Refusal :=
  .next ((s.coldStart .powerOn strap1 strap0 pfail).settle)

/-- PIN_RESET (R187). -/
def execPinReset (strap1 strap0 pfail : Bool) (s : State) : Host.Outcome State Fault Refusal :=
  .next ((s.coldStart .pin strap1 strap0 pfail).settle)

/-- SUPPLY_FAIL (R167). -/
def execSupplyFail (s : State) : Host.Outcome State Fault Refusal :=
  .next s.enterHalted.settle

/-- ATTENTION_ASSERTED (R41). -/
def execAttentionAsserted (s : State) : Host.Outcome State Fault Refusal :=
  .next ((s.unlessHalted State.attention).settle)

/-- POLL goes out (R24, R29, R33). -/
def execPoll (h : Hearing) (s : State) : Host.Outcome State Fault Refusal :=
  .next ((s.sendIf Order.isPoll h).settle)

/-- STATUS goes out (R24, R30, R33). -/
def execStatus (h : Hearing) (s : State) : Host.Outcome State Fault Refusal :=
  .next ((s.sendIf Order.isStatus h).settle)

/-- CLEAR goes out (R24, R31). -/
def execClear (h : Hearing) (s : State) : Host.Outcome State Fault Refusal :=
  .next ((s.sendIf Order.isClear h).settle)

/-- RISER_BUSY (R24). -/
def execRiserBusy (h : Hearing) (s : State) : Host.Outcome State Fault Refusal :=
  .next ((s.sendBusy h).settle)

/-- REPLY_WINDOW_EXPIRY (R33, R35). -/
def execReplyWindowExpiry (s : State) : Host.Outcome State Fault Refusal :=
  .next s.windowExpires.settle

/-- RISER_REPLY_RECEIVED (R34, R42). -/
def execRiserReplyReceived (chars : List RxChar) (s : State) : Host.Outcome State Fault Refusal :=
  .next ((s.replyEnds chars).settle)

/-- REPLY_ABANDONED (R33, R35). -/
def execReplyAbandoned (s : State) : Host.Outcome State Fault Refusal :=
  .next s.abandonReply.settle

/-- CLEAR_TRANSACTION_END (R33, R61). -/
def execClearTransactionEnd (s : State) : Host.Outcome State Fault Refusal :=
  .next s.clearEnds.settle

/-- GAP_TIMER_EXPIRY (R54). -/
def execGapTimerExpiry (s : State) : Host.Outcome State Fault Refusal :=
  .next ((s.unlessHalted State.gapExpires).settle)

/-- STEP_TIMER_EXPIRY (R56). -/
def execStepTimerExpiry (s : State) : Host.Outcome State Fault Refusal :=
  .next ((s.unlessHalted State.stepExpires).settle)

/-- FEEDER_SAMPLE (R66, R81). -/
def execFeederSample (c0 c1 c2 c3 : BitVec 12) (s : State) : Host.Outcome State Fault Refusal :=
  .next ((s.unlessHalted fun s => s.feederSamples c0 c1 c2 c3).settle)

/-- GASP_HOLD_EXPIRY (R90). -/
def execGaspHoldExpiry (addr : BitVec 10) (s : State) : Host.Outcome State Fault Refusal :=
  .next ((s.unlessHalted fun s => s.gaspHoldExpires addr.toNat).settle)

/-- HOLD_DOWN_EXPIRY (R91). -/
def execHoldDownExpiry (addr : BitVec 10) (s : State) : Host.Outcome State Fault Refusal :=
  .next ((s.unlessHalted fun s => s.holdDownExpires addr.toNat).settle)

/-- AGING_TICK (R12). -/
def execAgingTick (s : State) : Host.Outcome State Fault Refusal :=
  .next ((s.unlessHalted State.agingExpires).settle)

/-- WINDOW_TIMER_EXPIRY (R112). -/
def execWindowTimerExpiry (id : BitVec 6) (s : State) : Host.Outcome State Fault Refusal :=
  .next ((s.unlessHalted fun s => s.windowEnds id.toNat).settle)

/-- CLEARING_TIMER_EXPIRY (R140). -/
def execClearingTimerExpiry (id : Word16) (s : State) : Host.Outcome State Fault Refusal :=
  .next ((s.unlessHalted fun s => s.clearingExpires id.toNat).settle)

/-- REMINDER_TIMER_EXPIRY (R142). -/
def execReminderTimerExpiry (id : Word16) (s : State) : Host.Outcome State Fault Refusal :=
  .next ((s.unlessHalted fun s => s.reminderExpires id.toNat).settle)

/-- HOST_BYTE_RECEIVED (R172). -/
def execHostByteReceived (byte : Byte) (stopOk : Bool) (s : State) : Host.Outcome State Fault Refusal :=
  .next ((s.hostByte byte stopOk).settle)

/-- RISER_CHARACTER_RECEIVED (R24, R33). -/
def execRiserCharacterReceived (s : State) : Host.Outcome State Fault Refusal :=
  .next s.riserCharacter.settle

/-- FMU_EVENT_RECORDED (R28). -/
def execFmuEventRecorded (fmu : BitVec 6) (kind : EventKind) (port : BitVec 4)
    (s : State) : Host.Outcome State Fault Refusal :=
  .next ((s.fmuRecords fmu.toNat kind port.toNat).settle)

/-- FMU_START (R32). -/
def execFmuStart (strap : Strap) (lit : BitVec 16) (s : State) : Host.Outcome State Fault Refusal :=
  .next ((s.fmuStarts strap.fmu.toNat strap.floor.toNat lit).settle)

end Sys2Proof.Machine
end

