-- ==== Sys2Proof/Machine/Dispatch.lean ====
section
/-! DEFINITION. The meaning of every command, one arm a row. -/

namespace Sys2Proof.Machine

/-- The effect of a command on everything but the queue. -/
def exec (i : Instr) (s : State) : Host.Outcome State Fault Refusal :=
  match i with
  | .identify tag => Sys2Proof.Machine.execIdentify tag s
  | .terminalWrite tag addr dom offClass notify label masked watch => Sys2Proof.Machine.execTerminalWrite tag addr dom offClass notify label masked watch s
  | .terminalRemove tag addr => Sys2Proof.Machine.execTerminalRemove tag addr s
  | .terminalRead tag addr => Sys2Proof.Machine.execTerminalRead tag addr s
  | .learnedList tag start => Sys2Proof.Machine.execLearnedList tag start s
  | .domainWrite tag id level parent channel tap => Sys2Proof.Machine.execDomainWrite tag id level parent channel tap s
  | .domainRemove tag id => Sys2Proof.Machine.execDomainRemove tag id s
  | .domainRead tag id => Sys2Proof.Machine.execDomainRead tag id s
  | .floorUnitWrite tag floor => Sys2Proof.Machine.execFloorUnitWrite tag floor s
  | .floorUnitRemove tag floor => Sys2Proof.Machine.execFloorUnitRemove tag floor s
  | .floorUnitRead tag floor => Sys2Proof.Machine.execFloorUnitRead tag floor s
  | .settingsWrite tag entries => Sys2Proof.Machine.execSettingsWrite tag entries s
  | .settingsRead tag => Sys2Proof.Machine.execSettingsRead tag s
  | .matchTerminals tag first last care pattern states mode => Sys2Proof.Machine.execMatchTerminals tag first last care pattern states mode s
  | .bulkUpdate tag source attrs op values first last bitmap => Sys2Proof.Machine.execBulkUpdate tag source attrs op values first last bitmap s
  | .faultList tag start => Sys2Proof.Machine.execFaultList tag start s
  | .faultRead tag id => Sys2Proof.Machine.execFaultRead tag id s
  | .faultAck tag id => Sys2Proof.Machine.execFaultAck tag id s
  | .faultClear tag id => Sys2Proof.Machine.execFaultClear tag id s
  | .decideNow tag id => Sys2Proof.Machine.execDecideNow tag id s
  | .powerRead tag type sel => Sys2Proof.Machine.execPowerRead tag type sel s
  | .countersRead tag sel => Sys2Proof.Machine.execCountersRead tag sel s
  | .noticeMaskWrite tag floors classes => Sys2Proof.Machine.execNoticeMaskWrite tag floors classes s
  | .resync tag type which => Sys2Proof.Machine.execResync tag type which s
  | .configSave tag => Sys2Proof.Machine.execConfigSave tag s
  | .softRestart tag => Sys2Proof.Machine.execSoftRestart tag s
  | .unknownKindRequest kind tag fields => Sys2Proof.Machine.execUnknownKindRequest kind tag fields s
  | .hostFrameReceived bytes => Sys2Proof.Machine.execHostFrameReceived bytes s
  | .hostFrameGapTimeout => Sys2Proof.Machine.execHostFrameGapTimeout s
  | .frameBoundary => Sys2Proof.Machine.execFrameBoundary s
  | .configSaveComplete => Sys2Proof.Machine.execConfigSaveComplete s
  | .softRestartPerformed pfail => Sys2Proof.Machine.execSoftRestartPerformed pfail s
  | .powerOnReset strap1 strap0 pfail => Sys2Proof.Machine.execPowerOnReset strap1 strap0 pfail s
  | .pinReset strap1 strap0 pfail => Sys2Proof.Machine.execPinReset strap1 strap0 pfail s
  | .supplyFail => Sys2Proof.Machine.execSupplyFail s
  | .attentionAsserted => Sys2Proof.Machine.execAttentionAsserted s
  | .poll h => Sys2Proof.Machine.execPoll h s
  | .status h => Sys2Proof.Machine.execStatus h s
  | .clear h => Sys2Proof.Machine.execClear h s
  | .riserBusy h => Sys2Proof.Machine.execRiserBusy h s
  | .replyWindowExpiry => Sys2Proof.Machine.execReplyWindowExpiry s
  | .riserReplyReceived chars => Sys2Proof.Machine.execRiserReplyReceived chars s
  | .replyAbandoned => Sys2Proof.Machine.execReplyAbandoned s
  | .clearTransactionEnd => Sys2Proof.Machine.execClearTransactionEnd s
  | .gapTimerExpiry => Sys2Proof.Machine.execGapTimerExpiry s
  | .stepTimerExpiry => Sys2Proof.Machine.execStepTimerExpiry s
  | .feederSample c0 c1 c2 c3 => Sys2Proof.Machine.execFeederSample c0 c1 c2 c3 s
  | .gaspHoldExpiry addr => Sys2Proof.Machine.execGaspHoldExpiry addr s
  | .holdDownExpiry addr => Sys2Proof.Machine.execHoldDownExpiry addr s
  | .agingTick => Sys2Proof.Machine.execAgingTick s
  | .windowTimerExpiry id => Sys2Proof.Machine.execWindowTimerExpiry id s
  | .clearingTimerExpiry id => Sys2Proof.Machine.execClearingTimerExpiry id s
  | .reminderTimerExpiry id => Sys2Proof.Machine.execReminderTimerExpiry id s
  | .hostByteReceived byte stopOk => Sys2Proof.Machine.execHostByteReceived byte stopOk s
  | .riserCharacterReceived => Sys2Proof.Machine.execRiserCharacterReceived s
  | .fmuEventRecorded fmu kind port => Sys2Proof.Machine.execFmuEventRecorded fmu kind port s
  | .fmuStart strap lit => Sys2Proof.Machine.execFmuStart strap lit s

end Sys2Proof.Machine
end

