-- ==== Sys2Proof/Safety.lean ====
section
/-! DEFINITION. What counts as a safe state, and the words in which statements speak of a step. -/

namespace Sys2Proof.Machine

/-! ## Bounds and accounts (R9, R50, R56, R131, R159, R164, R166, R173) -/

/-- A class's account: while none of its counts has saturated, every notice offered has been sent, stands in the
queue, or has been dropped or masked (R166). -/
def ClassQueue.Accounted (q : ClassQueue) : Prop :=
  q.offered < 4294967295 → q.sent < 4294967295 → q.dropped < 65535 → q.masked < 65535 →
    q.offered = q.sent + q.queue.length + q.dropped + q.masked

/-- Every table, queue and pacing number stays within the limits that the spec gives it, the account of each class
adds up, and the notice on the line stands at the head of its queue. -/
structure State.Bounded (s : State) : Prop where
  buffer   : s.link.buffer.length ≤ 4
  learned  : s.learned.length ≤ 64
  faults   : s.faults.length ≤ 32
  critical : s.notices.critical.queue.length ≤ 16
  major    : s.notices.major.queue.length ≤ 16
  minor    : s.notices.minor.queue.length ≤ 32
  info     : s.notices.info.queue.length ≤ 32
  level    : 1 ≤ s.sched.level ∧ s.sched.level ≤ 8
  count    : s.sched.count < 8
  account  : ∀ c, (s.notices.get c).Accounted
  onLine   : ∀ c n, s.link.tx = some (.notice c n) → (s.notices.get c).queue.head? = some n

/-! ## Keys (R2, R9, R16, R21, R148) -/

/-- The keys of an image's tables rise and lie in their ranges. -/
structure Image.Keyed (i : Image) : Prop where
  terms       : Table.rising i.terms = true
  termRange   : ∀ e ∈ i.terms, e.1 ≤ 1023
  termCount   : i.terms.length ≤ 512
  domains     : Table.rising i.domains = true
  domainRange : ∀ e ∈ i.domains, e.1 ≤ 63
  floors      : risingAddrs i.floors = true
  floorRange  : ∀ f ∈ i.floors, f ≤ 63

/-- What holds of every image that the store holds. -/
def Store.every (c : Store) (p : Image → Prop) : Prop :=
  (∀ i crc, c.flash = .written i crc → p i) ∧ (∀ i, c.saving = some i → p i)

/-- The tables are in their canonical form: keys rise and lie in their ranges, the latch names static entries
only (R148), and no address is both static and learned (R9). -/
structure State.Keyed (s : State) : Prop where
  terms       : Table.rising s.terms = true
  termRange   : ∀ e ∈ s.terms, e.1 ≤ 1023
  termCount   : s.terms.length ≤ 512
  domains     : Table.rising s.domains = true
  domainRange : ∀ e ∈ s.domains, e.1 ≤ 63
  units       : Table.rising s.units = true
  unitRange   : ∀ e ∈ s.units, e.1 ≤ 63
  latch       : risingAddrs s.latch = true
  latched     : ∀ a ∈ s.latch, Table.has s.terms a = true
  learned     : Table.distinct s.learned
  apart       : ∀ e ∈ s.learned, Table.has s.terms e.1 = false
  store       : s.store.every Image.Keyed

/-! ## References (R2, R16, R185) -/

/-- Every entry of an image names a SPLITTER of it and a provisioned floor of it; every parent is a record one
level up, and every tap link names a provisioned floor. -/
structure Image.Linked (i : Image) : Prop where
  members  : ∀ e ∈ i.terms,
    (Table.get? i.domains e.2.domain).map DomainFields.level = some .splitter ∧ floorOf e.1 ∈ i.floors
  parents  : ∀ e ∈ i.domains, ∀ p, e.2.parent = some p →
    (Table.get? i.domains p).map DomainFields.level = e.2.level.up ∧ e.2.level ≠ .feeder
  taps     : ∀ e ∈ i.domains, ∀ t, e.2.tap = some t → t.1 ∈ i.floors ∧ e.2.level = .splitter
  channels : ∀ e ∈ i.domains, e.2.channel.isSome = true → e.2.level = .feeder

/-- Every entry names a SPLITTER that exists and a provisioned floor; every parent is a record one level up,
and every tap link names a provisioned floor. -/
structure State.Linked (s : State) : Prop where
  members  : ∀ e ∈ s.terms,
    (s.domain? e.2.prov.domain).map (fun d => d.fields.level) = some .splitter ∧ (s.unit? (floorOf e.1)).isSome = true
  parents  : ∀ e ∈ s.domains, ∀ p, e.2.fields.parent = some p →
    (s.domain? p).map (fun d => d.fields.level) = e.2.fields.level.up ∧ e.2.fields.level ≠ .feeder
  taps     : ∀ e ∈ s.domains, ∀ t, e.2.fields.tap = some t →
    (s.unit? t.1).isSome = true ∧ e.2.fields.level = .splitter
  channels : ∀ e ∈ s.domains, e.2.fields.channel.isSome = true → e.2.fields.level = .feeder
  store    : s.store.every Image.Linked

/-! ## Settings (R70, R178) -/

/-- Every setting lies in its range, and a LOW threshold is not below the LOS threshold of its kind. -/
abbrev Settings.InRange (c : Settings) : Prop :=
  (∀ i ∈ List.range 33, (settingRange (i + 1)).1 ≤ c.get (i + 1) ∧ c.get (i + 1) ≤ (settingRange (i + 1)).2) ∧
    c.feederLos ≤ c.feederLow ∧ c.tapLos ≤ c.tapLow

/-- The settings in force and those of every image in the store lie in their ranges. -/
structure State.SettingsOk (s : State) : Prop where
  inForce : s.settings.InRange
  store   : s.store.every fun i => i.settings.InRange

/-! ## Terminal records (R82, R83, R90, R91, R95) -/

/-- A runtime record whose parts agree: each timer runs in its one state, the prior state is held exactly in
RESTORING and NO_CONTACT, LIT follows the state, and only off, restoring and lost entries are folded. -/
structure Terminal.Agrees (t : Terminal) : Prop where
  gaspHold  : t.gaspHold.isSome = true → t.state = .gasped
  holdDown  : t.holdDown.isSome = true → t.state = .restoring
  offSince  : t.offSince.isSome = true → t.state = .restoring
  prior     : t.prior.isSome = true ↔ t.state = .restoring ∨ t.state = .noContact
  restoring : t.state = .restoring → (t.prior.map TState.isOff).getD false = true
  lit       : t.state ≠ .noContact →
    (t.lit = true ↔ t.state = .lit ∨ t.state = .gasped ∨ t.state = .restoring)
  folded    : t.folded = true →
    t.state.isOff = true ∨ t.state = .restoring ∨
      (t.state = .noContact ∧ (t.prior.map TState.isOff).getD false = true)

/-- Every static entry's record agrees with itself. -/
def State.TermsAgree (s : State) : Prop := ∀ e ∈ s.terms, e.2.Agrees

/-! ## Fault records (R127, R131, R135) -/

/-- The fault table and the tables that hang on it agree: the ids are all different, each off count is the
number of terminals linked to its record whose state is not LIT, every link leads to an open record that takes
folds, and every DECIDED domain is the subject of the open record it holds. -/
structure State.FaultsAgree (s : State) : Prop where
  ids     : Table.distinct s.faults
  off     : ∀ e ∈ s.faults,
    e.2.off = Table.countWhere s.terms fun _ t => decide (t.link = some e.1) && decide (t.state ≠ .lit)
  linked  : ∀ e ∈ s.terms, ∀ x, e.2.link = some x → ∃ f, s.fault? x = some f ∧ f.kind ≠ .unitLost
  decided : ∀ e ∈ s.domains, ∀ x, e.2.window = .decided x →
    ∃ f, s.fault? x = some f ∧ f.kind.onDomain = true ∧ f.subject = e.1

/-- The links between records and the windows of held terminals agree: every DECIDED domain record is the subject
of the record on it (R107), each child count is the number of records linked to its record (R136), a record is linked
only below an open record whose subject domain stands at a higher level, so that links make no ring (R125, R136), and
a terminal is held only while its splitter's window is OPEN (R87). -/
structure State.ChildrenAgree (s : State) : Prop where
  subject : ∀ e ∈ s.faults, e.2.kind.onDomain = true → s.windowOf e.2.subject = .decided e.1
  count   : ∀ e ∈ s.faults, e.2.children = Table.countWhere s.faults fun _ f => decide (f.parent = some e.1)
  parent  : ∀ e ∈ s.faults, ∀ p, e.2.parent = some p → ∃ f d o, s.fault? p = some f ∧
    e.2.kind.onDomain = true ∧ f.kind.onDomain = true ∧
    s.domain? e.2.subject = some d ∧ s.domain? f.subject = some o ∧ d.fields.level.code < o.fields.level.code
  held    : ∀ e ∈ s.terms, e.2.held = true → (s.windowOf e.2.prov.domain).isOpen = true

/-! ## What settling leaves -/

/-- A class queue without its overflow slot. -/
def ClassQueue.still (q : ClassQueue) : ClassQueue := { q with slot := .empty, slotCount := 0 }

/-- The notice queues without what choosing a frame changes: credits, slots, PART_GASP. -/
def NoticeQueues.still (n : NoticeQueues) : NoticeQueues :=
  { n with
    critical := n.critical.still
    major := n.major.still
    minor := n.minor.still
    info := n.info.still
    credits := fullCredits
    partGasp := none }

/-- The scheduler without what its own next choice changes. -/
def Sched.still (c : Sched) : Sched := { newSched 0 with level := c.level, pendingClear := c.pendingClear }

/-- The host link without its buffer and the frame on the line. -/
def HostLink.still (l : HostLink) : HostLink := { l with tx := none, buffer := [] }

/-- The riser without the transaction in progress. -/
def Riser.still (r : Riser) : Riser := { r with txn := none }

/-- The part of the state that `settle` does not change, as a state with the rest blanked and the attention mark
as the line then sets it (R41). Two states with equal `still` agree in every table, record, count, setting, mark
and queued notice. -/
def State.still (s : State) : State :=
  { s with
    link := s.link.still
    riser := { s.riser.still with mark := s.markSeen }
    sched := s.sched.still
    notices := s.notices.still }

/-! ## What clearing MASKED offers (R157) -/

/-- A write that gives MASKED the value `m` clears it. -/
def Terminal.unmaskedTo (e : Terminal) (m : Bool) : Bool := e.prov.masked && !m

/-- TERMINAL_OFF with reason UNMASKED is offered for an entry, in the class of its off class, with its last cause
and its time of last change (R157). -/
def State.offerUnmasked (s : State) (addr : Nat) (e : Terminal) : State :=
  s.offer (match e.prov.offClass with | .major => .major | .minor => .minor)
    (.terminalOff addr e.prov.label e.lastCause e.lastChange .unmasked e.state)

/-- The addresses of a selection whose entry loses MASKED, by `clears`, while it is off, unreported and
unfolded (R157). -/
def State.unmaskedIn (s : State) (clears : Terminal → Bool) (selection : List Nat) : List Nat :=
  selection.filter fun a => ((s.term? a).map fun e => clears e && e.offUnreported).getD false

/-! ## What a power change offers (R74, R75) -/

/-- The notice of a change of level state at a measuring point: none where the point is unbound; in class `c` the
entry to LOS, and to LOW from UNKNOWN or NORMAL; in INFO the return to NORMAL from LOW or LOS (R74, R75). -/
def State.offerLevel (s : State) (c : NoticeClass) (subject : PowerSubject) (domain : Option Nat)
    (before after : LevelState) (average last : Int) : State :=
  match domain with
  | none => s
  | some d =>
    if (after = .los ∧ before ≠ .los) ∨ (after = .low ∧ (before = .unknown ∨ before = .normal)) then
      s.offer c (.powerLow subject d after before average last)
    else if after = .normal ∧ (before = .low ∨ before = .los) then
      s.offer .info (.levelRecovered subject d before average last)
    else s

/-! ## What a clearing limit offers (R96, R140) -/

/-- TERMINAL_OFF with reason RELEASED is offered for an unreported entry without MASKED (R96, R103). -/
def State.offerReleased (s : State) (addr : Nat) (e : Terminal) : State :=
  if e.reported = true ∨ e.prov.masked = true then s
  else s.offer (match e.prov.offClass with | .major => .major | .minor => .minor)
    (.terminalOff addr e.prov.label e.lastCause e.offTime .released e.state)

/-- FAULT_OPENED is offered for an unlinked child whose notice has not been offered (R140 step 2). -/
def State.offerUnlinked (s : State) (id : Nat) (f : FaultRecord) : State :=
  if f.announced then s else s.offer (s.faultClass f.kind f.subject) (s.openedNotice id f false)

/-- What is offered before a record goes at its clearing limit: for its terminals in address order, then for its
children in fault id order (R140 steps 1 and 2). -/
def State.limitOffers (s : State) (id : Nat) : State :=
  overKeys (sortIds (s.childFaults id))
    (fun c x => match s.fault? c with | some g => x.offerUnlinked c g | none => x)
    (overKeys (s.linkedTerms id) (fun a x => match s.term? a with | some e => x.offerReleased a e | none => x) s)

/-! ## What a window's opening, extension and close leave (R110, R111, R122, R134) -/

/-- The window of a domain after a member event or child decision at the state's uptime. A QUIET one opens for the
length L of its level, capped at L times the max factor (R110). An OPEN one ends at the uptime plus L, held at its
cap, when that is later than its end, and keeps its start and its cap; a time is later than another when their
difference modulo 2^32 lies in 1..2^31 − 1 (R111). -/
def State.windowAfter (s : State) (d : Domain) : Window :=
  let l := 100 * (match d.fields.level with
    | .splitter => s.settings.windowSplitter.toNat
    | .segment => s.settings.windowSegment.toNat
    | .feeder => s.settings.windowFeeder.toNat)
  let wanted := s.clock.uptime + BitVec.ofNat 32 l
  match d.window with
  | .quiet => .open s.clock.uptime wanted (s.clock.uptime + BitVec.ofNat 32 (l * s.settings.maxFactor.toNat))
  | .open start stop cap =>
    let end_ := if 1 ≤ (wanted - cap).toNat ∧ (wanted - cap).toNat ≤ 2147483647 then cap else wanted
    .open start (if 1 ≤ (end_ - stop).toNat ∧ (end_ - stop).toNat ≤ 2147483647 then end_ else stop) cap
  | .decided x => .decided x

/-- TABLE_FULL is offered for a record that finds no place, once in a full-table episode (R134). -/
def State.offerTableFull (s : State) (kind : FaultKind) (subject : Nat) : State :=
  if s.faultCtl.episode then s
  else s.offer .major (.tableFull kind (s.faultSubject kind subject) (inc16 s.faultCtl.fullCount))

/-- TERMINAL_OFF with reason WINDOW is offered for a held entry that is released and has neither MASKED nor a fold,
with its off state and last cause, and with its time of last change (R94, R103). -/
def State.offerWindowOff (s : State) (addr : Nat) (e : Terminal) : State :=
  if e.prov.masked = true ∨ e.link ≠ none then s
  else s.offer (match e.prov.offClass with | .major => .major | .minor => .minor)
    (.terminalOff addr e.prov.label (some (if e.state = .heldDark then .dark else .power)) e.lastChange .window
      (if e.state = .heldDark then .offDark else .offPower))

/-- The held entries of a SPLITTER, in the table's order. -/
def State.heldEntries (s : State) (id : Nat) : Table Terminal :=
  s.terms.filter fun e => decide (e.2.prov.domain = id) && e.2.held

/-- The records of a domain's children whose notice is held, in the order of the children, with their fields. -/
def State.heldRecords (s : State) (id : Nat) : Table FaultRecord :=
  (s.childDomains id).filterMap fun c => match s.windowOf c with
    | .decided y => ((s.fault? y).filter FaultRecord.held).map fun g => (y, g)
    | .quiet => none
    | .open .. => none

/-- A close with decision `dec` asks for a record: a fault decision, which at a SPLITTER finds a member to fold
(R121). -/
abbrev State.AsksRecord (s : State) (id : Nat) (level : Level) (dec : Decision) : Prop :=
  (dec = .fibreCut ∨ dec = .powerCut) ∧ (level ≠ .splitter ∨ ∃ e ∈ s.terms, e.2.prov.domain = id ∧
    (e.2.held = true ∨ e.2.prov.masked = false ∧ e.2.link = none ∧ e.2.state.isOff = true))

/-! ## Baseline (R99, R100) -/

/-- The count of BASELINE_DONE that an entry belongs to, by its state, its prior state and the light of its port
(R99, R100). -/
def Terminal.countedAs (e : Terminal) (light : Bool) : BaselineResult :=
  match e.state, e.prior, light with
  | .unseen, _, true => .lit
  | .unseen, _, false => .dark
  | .noContact, some .offDark, true => .restored
  | .noContact, some .offPower, true => .restored
  | .noContact, _, true => .lit
  | .noContact, some .unseen, false => .dark
  | .noContact, some .offDark, false => .resumed
  | .noContact, some .offPower, false => .resumed
  | .noContact, _, false => .raised
  | _, _, _ => .unchanged

/-- How many static entries of a floor a baseline with a light map counts in one way. -/
def State.baselineCount (s : State) (floor : Nat) (light : BitVec 16) (r : BaselineResult) : Nat :=
  (s.terms.filter fun e => decide (e.1 / 16 = floor) && decide (e.2.countedAs (light.getLsbD (e.1 % 16)) = r)).length

/-! ## What an FMU hears (R25) -/

/-- An FMU hears a command frame undamaged, and does not ignore the line (R25). -/
abbrev Fmu.Hears (u : Fmu) (h : Hearing) (fmu : Nat) : Prop :=
  u.deaf = false ∧ (∀ d ∈ h.addressBadAt, d.toNat ≠ fmu) ∧ ∀ d ∈ h.damagedAt, d.toNat ≠ fmu

/-- An FMU after a command frame that has no other effect on it: from an address byte in error on it ignores the line
(R25). -/
def Fmu.heardOf (u : Fmu) (h : Hearing) (fmu : Nat) : Fmu :=
  { u with deaf := u.deaf || h.addressBadAt.any fun d => decide (d.toNat = fmu) }

/-! ## Between cycles (R50, R51, R54) -/

/-- The gap after a cycle, in milliseconds, by the table of 3.2, and at least 20 after a cycle that started nothing
(R54). -/
def gapBetweenCycles (level : Nat) (used : Bool) : Nat :=
  max (if used then 0 else 20) ([0, 20, 50, 100, 200, 400, 700, 1000].getD (level - 1) 1000)

/-- The transaction with which a visit to a floor begins: STATUS while its baseline is pending, else POLL with its
sequence bit, waiting to be sent (R51). -/
def FloorUnit.firstOf (u : FloorUnit) (floor : Nat) : Txn :=
  ⟨if u.baseline = true then .status floor else .poll floor (u.seq.getD false), 0, .toSend, 0, false⟩

/-- No transaction is in progress outside HALTED, and neither a CLEAR nor a sweep waits to begin, so that the next
visit, sweep visit, cycle or gap begins (R50, R52, R59). -/
abbrev State.FreeBus (s : State) : Prop :=
  s.halted = false ∧ s.riser.txn = none ∧ s.sched.pendingClear = none ∧ s.sched.sweepWanted = false

/-- No extra poll follows: the visit has ended (R52). -/
abbrev State.VisitOver (s : State) : Prop := ∀ v, s.sched.visit = some v → v.again = false

/-- A unit that a sweep visits stands at a floor (R59). -/
def State.inContact (s : State) (floor : Nat) : Prop := ∃ u, s.unit? floor = some u ∧ u.contact ≠ .silent

/-- The first provisioned floor that a cycle at its position visits, with its unit (R50, R53). -/
def State.nextOfCycle (s : State) (pos : Nat) (count : Nat) (skip : Option Nat) : Option (Nat × FloorUnit) :=
  s.units.find? fun e => decide (pos ≤ e.1) && decide (skip ≠ some e.1) &&
    (decide (e.2.contact ≠ .silent) || decide (count = 0))

/-- The pacing level has returned to 1 between two states: a running gap is over, and the step timer runs in full, or
stands where the window flag is set (R54, R55). -/
def State.ReturnsPacing (s t : State) : Prop :=
  t.sched.level = 1 ∧ t.sched.gap = none ∧ t.sched.windowOpen = s.sched.windowOpen ∧
    t.sched.step = (if s.sched.windowOpen then none else some s.settings.stepInterval.toNat)

/-! ## Progress of a record (R137) -/

/-- A record that enters CLEARING or makes progress there at the state's uptime: last progress, and a new clearing
timer with the clearing limit in force (R137). -/
def State.progressed (s : State) (f : FaultRecord) : FaultRecord :=
  { f with
    state := .clearing
    lastProgress := s.clock.uptime
    clearing := some (s.settings.clearingLimit.toNat * 1000) }

/-! ## Records below a record -/

/-- A record is linked below another one, at some depth (R144). -/
def State.Below (s : State) : Nat → Nat → Prop :=
  Relation.TransGen fun child parent => ∃ f, s.fault? child = some f ∧ f.parent = some parent

/-! ## How a request is answered -/

/-- The request just arrived stands last in the buffer, with its reply ready or on the line (R173). -/
def State.Replied (t : State) (tag : Byte) (r : Request) (reply : Reply) : Prop :=
  ∃ c, t.link.buffer.getLast? = some ⟨tag, r, c⟩ ∧ (c = .answered reply ∨ c = .sending reply)

/-- There is room in the buffer and no SOFT_RESTART has been taken, so that an arriving request is taken at
once (R172, R188). -/
abbrev State.Listens (s : State) : Prop := s.link.buffer.length < 4 ∧ s.link.restart = false

/-- An arriving request passes checks 1 and 4 of R174, whatever its kind. -/
abbrev State.Serves (s : State) : Prop := s.Listens ∧ s.halted = false ∧ s.store.saving = none

/-- The state with one more good frame counted (R172). -/
def State.counted (s : State) : State := s.modLink fun l => { l with good := inc16 l.good }

/-- A request command completes with a reply, and leaves the tables of `after`. -/
def Completes (c : Instr) (s : State) (tag : Byte) (r : Request) (reply : Reply) (after : State) : Prop :=
  ∃ t, exec c s = .next t ∧ t.Replied tag r reply ∧ t.still = after.still

end Sys2Proof.Machine
end

