-- ==== Sys2Proof/Certificates/Slice0/Obligations.lean ====
section
/-! DEFINITION. The statements about this machine. -/

open Sys2Proof Sys2Proof.Machine

/-! ## The queue, time and reset -/

/-- A step carries out the command at the front of the queue, on the state with the queue's rest (the model's
queue, assumption 1). -/
def Obligations.StepRunsFrontCommand : Prop :=
  ∀ (c : Instr) (rest : List Instr) (s : State), s.pending = c :: rest →
    step s = exec c { s with pending := rest }

/-- With no command waiting a millisecond passes (the model's choice, assumption 1): the uptime rises by one
unit of 10 ms, modulo 2^32, at every tenth, and every running timer loses a millisecond, down to 0; in HALTED
the uptime and every timer stand still (R167), but the gap limit of the receiver runs there too (R172). No table gains
or loses a key, and no request, notice or reply moves. -/
def Obligations.EmptyQueuePassesMillisecond : Prop :=
  ∀ s : State, s.pending = [] →
    ∃ t, step s = .next t ∧
      (s.halted = true → t.clock = s.clock ∧ t.terms = s.terms ∧ t.faults = s.faults ∧ t.tally = s.tally ∧
        t.sched = s.sched) ∧
      (s.halted = false → s.clock.ms < 9 → t.clock = ⟨s.clock.uptime, s.clock.ms + 1⟩) ∧
      (s.halted = false → s.clock.ms = 9 → t.clock = ⟨s.clock.uptime + 1, 0⟩) ∧
      (s.halted = false →
        (∀ a e, s.term? a = some e → t.term? a = some { e with
          gaspHold := e.gaspHold.map fun n => n - 1, holdDown := e.holdDown.map fun n => n - 1 }) ∧
        (∀ i f, s.fault? i = some f → t.fault? i = some { f with
          clearing := f.clearing.map fun n => n - 1, reminder := f.reminder.map fun n => n - 1 }) ∧
        t.sched = { s.sched with gap := s.sched.gap.map fun n => n - 1, step := s.sched.step.map fun n => n - 1 } ∧
        t.tally = { s.tally with aging := s.tally.aging - 1 }) ∧
      t.terms.map Prod.fst = s.terms.map Prod.fst ∧ t.faults.map Prod.fst = s.faults.map Prod.fst ∧
      t.domains = s.domains ∧ t.units = s.units ∧
      t.link.buffer = s.link.buffer ∧ t.link.tx = s.link.tx ∧
      t.link.rx = (s.link.rx.map fun p => { p with gap := p.gap - 1 }) ∧ t.notices = s.notices ∧ t.store = s.store ∧
      t.settings = s.settings ∧ t.learned = s.learned ∧ t.latch = s.latch

/-- The state after reset meets every invariant below. -/
def Obligations.ResetStateIsSafe : Prop :=
  State.reset.Bounded ∧ State.reset.Keyed ∧ State.reset.SettingsOk ∧ State.reset.Linked ∧
    State.reset.TermsAgree ∧ State.reset.FaultsAgree ∧ State.reset.ChildrenAgree

/-! ## Invariants of every step -/

/-- Buffers, tables, queues and pacing numbers stay within their limits (R9, R50, R56, R131, R159, R173); the account
of every class adds up, offered being sent, queued, dropped and masked together, while none of its counts has saturated
(R166); and the notice on the line stands at the head of its queue (R164). -/
def Obligations.LimitsAreKept : Prop := ∀ s t : State, s.Bounded → step s = .next t → t.Bounded

/-- The tables keep their keys apart and in range, the latch names static entries only, and no address is both
static and learned (R2, R9, R148). -/
def Obligations.TableKeysAreKept : Prop := ∀ s t : State, s.Keyed → step s = .next t → t.Keyed

/-- Every setting stays in its range, in force and in the store, and LOW is never below LOS (R70, R178). -/
def Obligations.SettingsStayInRange : Prop := ∀ s t : State, s.SettingsOk → step s = .next t → t.SettingsOk

/-- Entries go on naming a SPLITTER and a provisioned floor that exist, and domains a parent one level up
(R2, R16). -/
def Obligations.ReferencesAreKept : Prop :=
  ∀ s t : State, s.Keyed → s.Linked → step s = .next t → t.Linked

/-- Every terminal's timers, prior state, LIT attribute and fold go on agreeing with its state (R82, R83, R90,
R91, R95). -/
def Obligations.TerminalRecordsAgree : Prop :=
  ∀ s t : State, s.Keyed → s.TermsAgree → step s = .next t → t.TermsAgree

/-- For every open record the off count equals the number of linked terminals that are not LIT, after any
command (R135); links lead to open records, and DECIDED domains are the subjects of theirs (R131). Its linked open
child count equals the number of records linked to it (R136), links lead to records of higher domains (R125), and a
held terminal's splitter has its window OPEN (R87). -/
def Obligations.OffCountsAgree : Prop :=
  (∀ s t : State, s.Keyed → s.TermsAgree → s.FaultsAgree → step s = .next t → t.FaultsAgree) ∧
  (∀ s t : State, s.Keyed → s.Linked → s.TermsAgree → s.FaultsAgree → s.ChildrenAgree → step s = .next t →
    t.ChildrenAgree)

/-! ## The wire -/

/-- What the request encoder writes, the request reader reads back, for every request that a frame can carry
(R171, R182). -/
def Obligations.RequestFieldsRoundTrip : Prop :=
  ∀ r : Request, r.wf = true → parseRequest r.kind (encodeFields r) = r

/-- The bytes of a request's frame, received while hunting, do what the request's own row does (R171, R172,
R173). -/
def Obligations.HostFrameIsItsRequest : Prop :=
  ∀ (i : Instr) (tag : Byte) (r : Request) (s : State), i.request = some (tag, r) → i.wf = true →
    s.link.rx = none →
    ∃ t, exec (.hostFrameReceived (requestFrame tag r)) s = .next t ∧ exec i s = .next t

/-- The receiver (R172): hunting discards all but a sync byte; within a frame a missing stop bit, a length outside
2..250, and the 20 ms mark (when it is told, assumption 2) end the frame, and a whole frame whose CRC-16 does not
match is dropped, each with the counter that the rule names. That the limit runs from the sync byte on is the model's
choice (assumption 53). -/
def Obligations.ReceiverTakesBytes : Prop :=
  (∀ (s : State) (b : Byte) (ok : Bool), s.link.rx = none →
    ∃ t, exec (.hostByteReceived b ok) s = .next t ∧ t.still.link.good = s.link.good ∧
      (t.link.rx = if b = 0xA5#8 ∧ ok = true then some ⟨[], 20⟩ else none) ∧
      t.link.abandoned = s.link.abandoned ∧ t.link.lengthErrors = s.link.lengthErrors) ∧
  (∀ (s : State) (p : Partial) (b : Byte), s.link.rx = some p →
    ∃ t, exec (.hostByteReceived b false) s = .next t ∧ t.link.rx = none ∧
      t.link.abandoned = inc16 s.link.abandoned ∧ t.link.good = s.link.good) ∧
  (∀ (s : State) (g : Nat) (b : Byte), s.link.rx = some ⟨[], g⟩ → (b.toNat < 2 ∨ 250 < b.toNat) →
    ∃ t, exec (.hostByteReceived b true) s = .next t ∧ t.link.rx = none ∧
      t.link.lengthErrors = inc16 s.link.lengthErrors ∧ t.link.abandoned = s.link.abandoned) ∧
  (∀ (s : State) (bytes : List Byte), s.link.rx = some ⟨bytes, 0⟩ →
    ∃ t, exec .hostFrameGapTimeout s = .next t ∧ t.link.rx = none ∧
      t.link.abandoned = inc16 s.link.abandoned ∧
      t.still = { s with link := { s.link with rx := none, abandoned := inc16 s.link.abandoned } }.still) ∧
  (∀ (s : State) (l : Byte) (body : List Byte) (c1 c0 : Byte), s.link.rx = none → 2 ≤ l.toNat →
    l.toNat ≤ 250 → body.length = l.toNat → split16 (crc16 (l :: body)) ≠ [c1, c0] →
    ∃ t, exec (.hostFrameReceived (l :: body ++ [c1, c0])) s = .next t ∧ t.link.rx = none ∧
      t.still = { s with link := { s.link with crcErrors := inc16 s.link.crcErrors } }.still)

/-- With four requests buffered an arriving request is an overrun: it is not taken, and only the overruns rise
(R172). -/
def Obligations.FullBufferOverruns : Prop :=
  ∀ (i : Instr) (tag : Byte) (r : Request) (s : State), i.request = some (tag, r) → i.wf = true →
    4 ≤ s.link.buffer.length →
    ∃ t, exec i s = .next t ∧ t.link.buffer.length = s.link.buffer.length ∧
      t.still = { s with link := { s.link with overruns := inc16 s.link.overruns } }.still

/-! ## Refusals at the taking -/

/-- In HALTED every request but IDENTIFY and SOFT_RESTART is answered HALTED and changes nothing (R169, R174);
outside it, during a save, a request marked "refused" is answered BUSY and changes nothing, and a kind byte
outside 0x01..0x1A is answered UNKNOWN_KIND and changes nothing (R174). -/
def Obligations.RefusedAtTaking : Prop :=
  ∀ (i : Instr) (tag : Byte) (r : Request) (s : State), i.request = some (tag, r) → i.wf = true → s.Listens →
    (s.halted = true → r ≠ .identify → r ≠ .softRestart → Completes i s tag r (.fail .halted) s.counted) ∧
    (s.halted = false → s.store.saving.isSome = true →
      r.kind.toNat ∈ [2, 3, 6, 7, 9, 10, 12, 23, 25] → Completes i s tag r (.fail .busy) s.counted) ∧
    (s.halted = false → (r.kind.toNat < 1 ∨ 26 < r.kind.toNat) →
      Completes i s tag r (.fail .unknownKind) s.counted)

/-! ## Requests that only read -/

/-- IDENTIFY is answered in every state with the figures of R180, and changes no state. -/
def Obligations.IdentifyReports : Prop :=
  ∀ (tag : Byte) (s : State), s.Listens →
    Completes (.identify tag) s tag .identify
      (.ok (.identity ⟨Config.firmwareEdition, s.link.rate, s.clock.uptime, s.halted, s.store.imageLoaded,
        s.store.saveCount, s.terms.length, s.learned.length, s.domains.length, s.units.length,
        s.faults.length⟩)) s.counted

/-- TERMINAL_READ, LEARNED_LIST, DOMAIN_READ, FLOOR_UNIT_READ, SETTINGS_READ, FAULT_LIST, FAULT_READ and
POWER_READ answer from the tables as they stand, refuse what their rules refuse, and change no state (R7, R15,
R20, R23, R179, R145, R79). -/
def Obligations.ReadsChangeNothing : Prop :=
  ∀ (tag : Byte) (s : State), s.Listens → s.halted = false →
    (∀ a : Word16, Completes (.terminalRead tag a) s tag (.terminalRead a)
      (if 1023 < a.toNat then .fail .outOfRange
       else match s.term? a.toNat with
        | none => .fail .notFound
        | some t => .ok (.terminal a.toNat t)) s.counted) ∧
    (∀ p : Byte, Completes (.learnedList tag p) s tag (.learnedList p)
      (if 63 < p.toNat then .fail .outOfRange
       else .ok (.learned s.learned.length p.toNat ((s.learned.drop p.toNat).take 24))) s.counted) ∧
    (∀ i : Byte, Completes (.domainRead tag i) s tag (.domainRead i)
      (if 63 < i.toNat then .fail .outOfRange
       else match s.domain? i.toNat with
        | none => .fail .notFound
        | some d => .ok (.domain i.toNat d (s.memberCount i.toNat) (s.childDomains i.toNat).length)) s.counted) ∧
    (∀ f : Byte, Completes (.floorUnitRead tag f) s tag (.floorUnitRead f)
      (if 63 < f.toNat then .fail .outOfRange
       else .ok (.floor (s.unit? f.toNat) (s.tapLink f.toNat .a) (s.tapLink f.toNat .b)
        (s.staticCount f.toNat))) s.counted) ∧
    Completes (.settingsRead tag) s tag .settingsRead
      (.ok (.settings s.settings s.sched.level s.sched.count s.store.saving.isSome)) s.counted ∧
    (∀ p : Byte, Completes (.faultList tag p) s tag (.faultList p)
      (if 31 < p.toNat then .fail .outOfRange
       else .ok (.faults s.faults.length s.faultCtl.nextId s.faultCtl.fullCount p.toNat
        ((s.faults.drop p.toNat).take 16))) s.counted) ∧
    (∀ i : Word16, Completes (.faultRead tag i) s tag (.faultRead i)
      (if i.toNat = 0 then .fail .outOfRange
       else match s.fault? i.toNat with
        | none => .fail .notFound
        | some f => .ok (.fault i.toNat f (sortIds (s.childFaults i.toNat)))) s.counted) ∧
    (∀ c : Byte, Completes (.powerRead tag 0 c) s tag (.powerRead 0 c)
      (if 3 < c.toNat then .fail .outOfRange
       else .ok (.feederPower (s.feeder c.toNat) (s.settings.calibration c.toNat)
        (s.channelDomain c.toNat))) s.counted) ∧
    (∀ f : Byte, Completes (.powerRead tag 1 f) s tag (.powerRead 1 f)
      (if 63 < f.toNat then .fail .outOfRange
       else if (s.unit? f.toNat).isNone then .fail .notFound
       else .ok (.tapPower (s.tapPoint f.toNat .a) (s.tapPoint f.toNat .b) (s.tapLink f.toNat .a)
        (s.tapLink f.toNat .b))) s.counted) ∧
    (∀ ty c : Byte, 1 < ty.toNat → Completes (.powerRead tag ty c) s tag (.powerRead ty c)
      (.fail .outOfRange) s.counted)

/-- COUNTERS_READ of a floor reports the nine counters as they stood and clears them, and nothing else (R47);
of 0xFF it reports the figures that R177 lists, the frame of the request among the good ones, and clears none. -/
def Obligations.CountersReadClearsFloor : Prop :=
  ∀ (tag sel : Byte) (s : State), s.Listens → s.halted = false →
    (∀ u, sel.toNat ≤ 63 → s.unit? sel.toNat = some u →
      Completes (.countersRead tag sel) s tag (.countersRead sel)
        (.ok (.unitCounters u.counters u.contact u.misses))
        { s.counted with units := Table.modify s.units sel.toNat fun u => { u with counters := zeroCounters } }) ∧
    (sel.toNat ≤ 63 → s.unit? sel.toNat = none →
      Completes (.countersRead tag sel) s tag (.countersRead sel) (.fail .notFound) s.counted) ∧
    (63 < sel.toNat → sel.toNat ≠ 255 →
      Completes (.countersRead tag sel) s tag (.countersRead sel) (.fail .outOfRange) s.counted) ∧
    (sel.toNat = 255 →
      Completes (.countersRead tag sel) s tag (.countersRead sel)
        (.ok (.linkCounters {
          good := inc16 s.link.good
          crcErrors := s.link.crcErrors
          lengthErrors := s.link.lengthErrors
          abandoned := s.link.abandoned
          overruns := s.link.overruns
          riserBusy := s.riser.busy
          learnedFull := s.tally.learnedFull
          duplicates := s.tally.duplicates
          lateGasps := s.tally.lateGasps
          transients := s.tally.transients
          absorbed := s.tally.absorbed
          tableFull := s.faultCtl.fullCount
          classes := [(s.notices.critical, 16), (s.notices.major, 16), (s.notices.minor, 32),
            (s.notices.info, 32)].map fun (q : ClassQueue × Nat) =>
              ⟨q.1.offered, q.1.sent, q.1.dropped, q.1.masked, q.1.queue.length, q.2, q.1.slot, q.1.slotCount⟩
          discipline := s.settings.discipline
          credits := if s.settings.discipline = 1 then some s.notices.credits else none
          floorMasked := (List.range 64).map fun f => (Table.get? s.notices.floorMasked f).getD 0 }))
        s.counted)

/-! ## Provisioning -/

/-- TERMINAL_WRITE for an address with no entry, every check of R3 passing: a new entry begins as after a reset
with the fields of the request, the learned entry of its address goes, a unit in contact is marked baseline
pending, and the reply carries the new member count (R3, R4, R14). -/
def Obligations.TerminalWriteCreates : Prop :=
  ∀ (tag : Byte) (a : Word16) (dom off : Byte) (n : Bool) (l : Word16) (m w : Bool) (s : State) (d : Domain)
    (u : FloorUnit) (oc : OffClass),
    s.Serves → a.toNat ≤ 1023 → dom.toNat ≤ 63 → offClassOf off = some oc →
    s.unit? (floorOf a.toNat) = some u → s.domain? dom.toNat = some d → d.fields.level = .splitter →
    s.memberCount dom.toNat < 32 → s.terms.length < 512 → s.term? a.toNat = none →
    Completes (.terminalWrite tag a dom off n l m w) s tag (.terminalWrite a dom off n l m w)
      (.ok (.terminalWritten a.toNat true (Table.has s.learned a.toNat) (s.memberCount dom.toNat + 1)))
      { s.counted with
        terms := Table.put s.terms a.toNat (newTerminal ⟨dom.toNat, oc, n, l, m, w⟩)
        learned := Table.erase s.learned a.toNat
        units := Table.modify s.units (floorOf a.toNat) fun u =>
          if u.contact = .active ∨ u.contact = .retrying then { u with baseline := true } else u }

/-- TERMINAL_WRITE for an address with an entry, every check passing: the provisioned fields are those of the
request, the runtime record goes on, and every other entry and table stays as it was. REPORTED becomes set, with
TERMINAL_OFF offered in the off class and with the label of the request (assumption 27), exactly when the write
clears MASKED on an unreported, unfolded off entry (R5, R157). -/
def Obligations.TerminalWriteReplaces : Prop :=
  ∀ (tag : Byte) (a : Word16) (dom off : Byte) (n : Bool) (l : Word16) (m w : Bool) (s : State) (d : Domain)
    (u : FloorUnit) (oc : OffClass) (old : Terminal),
    s.Serves → a.toNat ≤ 1023 → dom.toNat ≤ 63 → offClassOf off = some oc →
    s.unit? (floorOf a.toNat) = some u → s.domain? dom.toNat = some d → d.fields.level = .splitter →
    s.term? a.toNat = some old →
    (old.prov.domain = dom.toNat ∨
      (old.held = false ∧ old.folded = false ∧ s.memberCount dom.toNat < 32)) →
    ∃ t : State, exec (.terminalWrite tag a dom off n l m w) s = .next t ∧
      t.Replied tag (.terminalWrite a dom off n l m w)
        (.ok (.terminalWritten a.toNat false false (t.memberCount dom.toNat))) ∧
      t.term? a.toNat = some { old with
        prov := ⟨dom.toNat, oc, n, l, m, w⟩, reported := old.reported || (old.unmaskedTo m && old.offUnreported) } ∧
      (∀ b, b ≠ a.toNat → t.term? b = s.term? b) ∧
      { t.still with terms := [] } =
        { (if old.unmaskedTo m && old.offUnreported
            then s.counted.offerUnmasked a.toNat { old with prov := ⟨dom.toNat, oc, n, l, m, w⟩ }
            else s.counted).still with terms := [] }

/-- TERMINAL_WRITE is refused with the status of the first check of R3 that fails, and then changes nothing. -/
def Obligations.TerminalWriteRefusals : Prop :=
  ∀ (tag : Byte) (a : Word16) (dom off : Byte) (n : Bool) (l : Word16) (m w : Bool) (s : State) (st : Status),
    s.Serves →
    (if 1023 < a.toNat ∨ 63 < dom.toNat ∨ (off.toNat ≠ 1 ∧ off.toNat ≠ 2) then some Status.outOfRange
     else if (s.unit? (floorOf a.toNat)).isNone then some .notFound
     else match s.domain? dom.toNat with
      | none => some .notFound
      | some d =>
        if d.fields.level ≠ .splitter then some .badLevel
        else match s.term? a.toNat with
          | none =>
            if 32 ≤ s.memberCount dom.toNat then some .domainFull
            else if 512 ≤ s.terms.length then some .tableFull else none
          | some e =>
            if e.prov.domain = dom.toNat then none
            else if e.held = true ∨ e.folded = true then some .inUse
            else if 32 ≤ s.memberCount dom.toNat then some .domainFull else none) = some st →
    Completes (.terminalWrite tag a dom off n l m w) s tag (.terminalWrite a dom off n l m w) (.fail st) s.counted

/-- TERMINAL_REMOVE of an entry that is neither HELD nor FOLDED takes out the entry and its address in the
latch, and nothing else; otherwise it is refused by the first check that fails and changes nothing (R6). -/
def Obligations.TerminalRemoveErases : Prop :=
  ∀ (tag : Byte) (a : Word16) (s : State), s.Serves →
    (∀ e, a.toNat ≤ 1023 → s.term? a.toNat = some e → e.held = false → e.folded = false →
      Completes (.terminalRemove tag a) s tag (.terminalRemove a) (.ok .empty)
        { s.counted with
          terms := s.terms.filter fun e => e.1 ≠ a.toNat
          latch := s.latch.filter fun b => b ≠ a.toNat }) ∧
    (1023 < a.toNat → Completes (.terminalRemove tag a) s tag (.terminalRemove a) (.fail .outOfRange) s.counted) ∧
    (a.toNat ≤ 1023 → s.term? a.toNat = none →
      Completes (.terminalRemove tag a) s tag (.terminalRemove a) (.fail .notFound) s.counted) ∧
    (∀ e, a.toNat ≤ 1023 → s.term? a.toNat = some e → (e.held = true ∨ e.folded = true) →
      Completes (.terminalRemove tag a) s tag (.terminalRemove a) (.fail .inUse) s.counted)

/-- DOMAIN_WRITE with the fields `d` of the request in range (check 1 of R17): `st` is the status of the first of the
checks 2 to 11 that fails. Where none fails, the position holds those fields, its window as it was or QUIET when it was
empty, and every other position and table is as before (R18); where one fails, `st` is the reply and nothing changes;
where check 1 fails it is OUT_OF_RANGE (R17). -/
def Obligations.DomainWriteStores : Prop :=
  ∀ (tag i l : Byte) (p c : Option Byte) (tp : Option (Byte × Byte)) (s : State), s.Serves →
    (∀ (d : DomainFields) (st : Option Status), i.toNat ≤ 63 → d.level.code = l.toNat →
      d.parent = p.map BitVec.toNat → (∀ x ∈ d.parent, x ≤ 63) →
      d.channel = c.map BitVec.toNat → (∀ x ∈ d.channel, x ≤ 3) →
      d.tap = tp.map (fun x => (x.1.toNat, if x.2 = 0#8 then .a else .b)) →
      (∀ x ∈ tp, x.1.toNat ≤ 63 ∧ x.2.toNat ≤ 1) →
      st = (
        if (d.parent.isSome = true ∧ d.level = .feeder) ∨ (d.channel.isSome = true ∧ d.level ≠ .feeder) ∨
          (d.tap.isSome = true ∧ d.level ≠ .splitter) then some .badLevel
        else if d.parent = some i.toNat then some .badLevel
        else if d.parent.any fun x => (s.domain? x).isNone then some .notFound
        else if d.parent.any fun x => decide
          ((s.domain? x).map (fun o => o.fields.level.code) ≠ some (d.level.code + 1)) then some .badLevel
        else if d.tap.any fun x => (s.unit? x.1).isNone then some .notFound
        else if (s.domain? i.toNat).any fun o => decide (o.fields.level ≠ d.level ∧
          (0 < s.memberCount i.toNat ∨ s.childDomains i.toNat ≠ [] ∨ o.window ≠ .quiet)) then some .inUse
        else if (s.domain? i.toNat).any fun o => decide (o.fields.parent ≠ d.parent ∧ (o.window ≠ .quiet ∨
          (o.fields.parent.any fun x => decide (s.windowOf x ≠ .quiet)) = true ∨
          (d.parent.any fun x => decide (s.windowOf x ≠ .quiet)) = true)) then some .inUse
        else if (s.domain? i.toNat).any fun o => o.window.fault?.isSome && decide (o.fields.channel ≠ d.channel) then
          some .inUse
        else if (d.tap.any fun x => s.domains.any fun e => decide (e.1 ≠ i.toNat ∧ e.2.fields.tap = some x)) ||
          (d.channel.any fun x => s.domains.any fun e => decide (e.1 ≠ i.toNat ∧ e.2.fields.channel = some x)) then
          some .inUse
        else if d.parent.any fun x => decide (((s.domain? i.toNat).bind fun o => o.fields.parent) ≠ some x ∧
          (if d.level = .splitter then 16 else 8) ≤ (s.childDomains x).length) then some .domainFull
        else none) →
      (st = none →
        ∃ t, exec (.domainWrite tag i l p c tp) s = .next t ∧
          t.domain? i.toNat = some ⟨d, s.windowOf i.toNat⟩ ∧
          (∀ j, j ≠ i.toNat → t.domain? j = s.domain? j) ∧
          { t.still with domains := [] } = { s.counted.still with domains := [] } ∧
          t.Replied tag (.domainWrite i l p c tp)
            (.ok (.domainWritten i.toNat d (t.memberCount i.toNat) (t.childDomains i.toNat).length))) ∧
      (∀ x, st = some x → Completes (.domainWrite tag i l p c tp) s tag (.domainWrite i l p c tp) (.fail x) s.counted)) ∧
    ((63 < i.toNat ∨ 2 < l.toNat ∨ (∃ x, p = some x ∧ 63 < x.toNat) ∨ (∃ x, c = some x ∧ 3 < x.toNat) ∨
        (∃ x, tp = some x ∧ (63 < x.1.toNat ∨ 1 < x.2.toNat))) →
      Completes (.domainWrite tag i l p c tp) s tag (.domainWrite i l p c tp) (.fail .outOfRange) s.counted)

/-- DOMAIN_REMOVE empties a position that is QUIET and has no members and no children, and changes nothing
else; otherwise it is refused (R19). -/
def Obligations.DomainRemoveEmpties : Prop :=
  ∀ (tag i : Byte) (s : State), s.Serves →
    (∀ d, i.toNat ≤ 63 → s.domain? i.toNat = some d → s.memberCount i.toNat = 0 → s.childDomains i.toNat = [] →
      d.window = .quiet →
      Completes (.domainRemove tag i) s tag (.domainRemove i) (.ok .empty)
        { s.counted with domains := s.domains.filter fun e => e.1 ≠ i.toNat }) ∧
    (63 < i.toNat → Completes (.domainRemove tag i) s tag (.domainRemove i) (.fail .outOfRange) s.counted) ∧
    (i.toNat ≤ 63 → s.domain? i.toNat = none →
      Completes (.domainRemove tag i) s tag (.domainRemove i) (.fail .notFound) s.counted) ∧
    (∀ d, i.toNat ≤ 63 → s.domain? i.toNat = some d →
      (0 < s.memberCount i.toNat ∨ s.childDomains i.toNat ≠ [] ∨ d.window ≠ .quiet) →
      Completes (.domainRemove tag i) s tag (.domainRemove i) (.fail .inUse) s.counted)

/-- FLOOR_UNIT_WRITE provisions a floor PRESENT with baseline pending, or finds it provisioned and changes
nothing (R21). What the scheduler then starts is its own; while a transaction is in progress it starts nothing,
and a floor provisioned at the position of the running cycle waits for the next cycle (R53), a cycle that waits for
a sweep not yet running (R54, assumption 38). -/
def Obligations.FloorUnitWriteProvisions : Prop :=
  ∀ (tag f : Byte) (s : State), s.Serves →
    (f.toNat ≤ 63 → s.unit? f.toNat = none →
      Completes (.floorUnitWrite tag f) s tag (.floorUnitWrite f)
        (.ok (.floorWritten true .present (s.staticCount f.toNat)))
        { s.counted with
          units := Table.put s.units f.toNat
            ⟨.present, 0, none, true, false, none, ⟨0, 0, 0, 0, 0, 0, 0, 0, 0⟩⟩ }) ∧
    (f.toNat ≤ 63 → s.unit? f.toNat = none → s.riser.txn.isSome = true →
      ∃ t, exec (.floorUnitWrite tag f) s = .next t ∧ t.sched.pos = s.sched.pos ∧
        t.sched.skip = if s.sched.pos = some f.toNat ∧ s.sched.cycleWaits = false then some f.toNat
          else s.sched.skip) ∧
    (∀ u, f.toNat ≤ 63 → s.unit? f.toNat = some u →
      Completes (.floorUnitWrite tag f) s tag (.floorUnitWrite f)
        (.ok (.floorWritten false u.contact (s.staticCount f.toNat))) s.counted) ∧
    (63 < f.toNat → Completes (.floorUnitWrite tag f) s tag (.floorUnitWrite f) (.fail .outOfRange) s.counted)

/-- FLOOR_UNIT_REMOVE of an unused floor: its record and its two tap slots go, and every other record, slot and
table stays; a transaction in progress goes on, without effect from then on when it is addressed to that floor; a floor
in use is refused (R22, R80). -/
def Obligations.FloorUnitRemoveErases : Prop :=
  ∀ (tag f : Byte) (s : State), s.Serves →
    (∀ u, f.toNat ≤ 63 → s.unit? f.toNat = some u → s.staticCount f.toNat = 0 → s.tapLink f.toNat .a = none →
      s.tapLink f.toNat .b = none → s.faultOn .unitLost f.toNat = none → s.faultOn .floorPower f.toNat = none →
      ∃ t, exec (.floorUnitRemove tag f) s = .next t ∧ t.Replied tag (.floorUnitRemove f) (.ok .empty) ∧
        t.unit? f.toNat = none ∧ (∀ g, g ≠ f.toNat → t.unit? g = s.unit? g) ∧
        t.tapPoint f.toNat .a = newPoint ∧ t.tapPoint f.toNat .b = newPoint ∧
        (∀ g p, g ≠ f.toNat → t.tapPoint g p = s.tapPoint g p) ∧
        (∀ o n ph el w, s.riser.txn = some ⟨o, n, ph, el, w⟩ →
          t.riser.txn = some ⟨o, n, ph, el, w || decide (o.floor? = some f.toNat)⟩) ∧
        { t.still with units := [], taps := [] } = { s.counted.still with units := [], taps := [] }) ∧
    (∀ u, f.toNat ≤ 63 → s.unit? f.toNat = some u →
      (0 < s.staticCount f.toNat ∨ s.tapLink f.toNat .a ≠ none ∨ s.tapLink f.toNat .b ≠ none ∨
        s.faultOn .unitLost f.toNat ≠ none ∨ s.faultOn .floorPower f.toNat ≠ none) →
      Completes (.floorUnitRemove tag f) s tag (.floorUnitRemove f) (.fail .inUse) s.counted) ∧
    (f.toNat ≤ 63 → s.unit? f.toNat = none →
      Completes (.floorUnitRemove tag f) s tag (.floorUnitRemove f) (.fail .notFound) s.counted) ∧
    (63 < f.toNat → Completes (.floorUnitRemove tag f) s tag (.floorUnitRemove f) (.fail .outOfRange) s.counted)

/-- SETTINGS_WRITE applies its entries in order, each clamped into its range, and then raises the LOW
thresholds to the LOS thresholds; the reply carries the applied values, and CLAMPED when one of them is not the
value written (R178, R70; the applied value of a LOW threshold is assumption 18). Entries that are not settings
are refused and change nothing. The tables that no setting owns stay as they are. What a written setting starts
again: the aging timer when the period changes (R13, assumption 19), the reminder timers at a change from or to
0 (R147), the running step timer (R57), and the WEIGHTED round unless STRICT stays in force (R163). -/
def Obligations.SettingsWriteApplies : Prop :=
  (∀ (tag : Byte) (es : List (Byte × Word32)) (s : State), s.Serves →
    (1 ≤ es.length → es.length ≤ 33 →
      (∀ e ∈ es, 1 ≤ e.1.toNat ∧ e.1.toNat ≤ 33 ∧ (e.1.toNat = 33 → e.2.toInt = 0 ∨ e.2.toInt = 1)) →
      ∃ (t : State) (raw : Settings) (applied : List (Nat × Int)) (clamped : Bool),
        exec (.settingsWrite tag es) s = .next t ∧
        raw = es.foldl (fun c e => c.put e.1.toNat
          (max (settingRange e.1.toNat).1 (min (settingRange e.1.toNat).2 e.2.toInt))) s.settings ∧
        t.settings = raw.raiseLow ∧
        applied = es.map (fun e =>
          let v := max (settingRange e.1.toNat).1 (min (settingRange e.1.toNat).2 e.2.toInt)
          (e.1.toNat, if e.1.toNat = 28 then max v t.settings.feederLos
            else if e.1.toNat = 31 then max v t.settings.tapLos else v)) ∧
        (clamped = true ↔ applied ≠ es.map (fun e => (e.1.toNat, e.2.toInt)) ∨ t.settings ≠ raw) ∧
        t.Replied tag (.settingsWrite es) ⟨.ok, clamped, false, .settingsApplied applied⟩ ∧
        t.terms = s.terms ∧ t.domains = s.domains ∧ t.units = s.units ∧ t.learned = s.learned ∧
        t.latch = s.latch ∧ t.store = s.store ∧ t.faults.map Prod.fst = s.faults.map Prod.fst) ∧
    ((es.length = 0 ∨ 33 < es.length ∨
        ∃ e ∈ es, e.1.toNat = 0 ∨ 33 < e.1.toNat ∨ (e.1.toNat = 33 ∧ e.2.toInt ≠ 0 ∧ e.2.toInt ≠ 1)) →
      Completes (.settingsWrite tag es) s tag (.settingsWrite es) (.fail .outOfRange) s.counted)) ∧
  (∀ (tag : Byte) (v : Word32) (s : State), s.Serves →
    (∃ t, exec (.settingsWrite tag [(18, v)]) s = .next t ∧ t.faults = s.faults ∧ t.tally = { s.tally with
      aging := if t.settings.aging = s.settings.aging then s.tally.aging
        else t.settings.aging.toNat * 60000 }) ∧
    (∃ t, exec (.settingsWrite tag [(17, v)]) s = .next t ∧ t.tally = s.tally ∧
      ∀ i f, s.fault? i = some f → t.fault? i = some { f with
        reminder := if t.settings.reminder = 0 then none
          else if s.settings.reminder = 0 ∧ f.announced = true ∧ f.acked = false ∧ f.parent = none then
            some (t.settings.reminder.toNat * 60000)
          else f.reminder }) ∧
    (s.sched.windowOpen = decide (0 < s.openCount) →
      ∃ t, exec (.settingsWrite tag [(21, v)]) s = .next t ∧ t.faults = s.faults ∧ t.tally = s.tally ∧
        t.sched.step = s.sched.step.map fun _ => t.settings.stepInterval.toNat) ∧
    (s.link.tx.isSome = true → v.toInt = 0 ∨ v.toInt = 1 →
      ∃ t, exec (.settingsWrite tag [(33, v)]) s = .next t ∧ t.faults = s.faults ∧ t.tally = s.tally ∧
        t.notices = { s.notices with
          credits := if s.settings.discipline = 0 ∧ v.toInt = 0 then s.notices.credits else ⟨8, 4, 2, 1⟩ }))

/-- NOTICE_MASK_WRITE replaces both masks and touches no queued notice (R161). The bit of each class is the
model's choice (assumption 11). -/
def Obligations.NoticeMaskWriteReplaces : Prop :=
  ∀ (tag : Byte) (f : BitVec 64) (c : BitVec 4) (s : State), s.Serves →
    Completes (.noticeMaskWrite tag f c) s tag (.noticeMaskWrite f c)
      (.ok (.masks f ⟨c.getLsbD 0, c.getLsbD 1, c.getLsbD 2, c.getLsbD 3⟩))
      { s.counted with
        floorMask := f, enables := ⟨c.getLsbD 0, c.getLsbD 1, c.getLsbD 2, c.getLsbD 3⟩ }

/-! ## Queries -/

/-- MATCH (R149 to R152): with its checks passed, the latch afterwards is the latch and the result set combined
by the mode, the result set being the static entries in the floor range with the cared attributes and an
accepted state; the reply counts both and maps the latch over the range; nothing else changes. With a check
failing it is refused. -/
def Obligations.MatchCombinesLatch : Prop :=
  ∀ (tag f l care pat : Byte) (st : Option Word16) (mode : Byte) (s : State), s.Listens → s.halted = false →
    (f.toNat ≤ l.toNat → l.toNat ≤ 63 → (∀ w, st = some w → w.toNat < 512) → mode.toNat ≤ 3 →
      ∃ (t : State) (r : List Nat) (bitmap : List Byte), exec (.matchTerminals tag f l care pat st mode) s = .next t ∧
        (∀ a, a ∈ r ↔ ∃ e, (a, e) ∈ s.terms ∧ f.toNat ≤ a / 16 ∧ a / 16 ≤ l.toNat ∧
          e.attrs &&& care = pat &&& care ∧ (∀ w, st = some w → w.getLsbD e.state.code = true)) ∧
        (Table.rising s.terms = true → r.Nodup) ∧
        (∀ a, a ∈ t.latch ↔
          if mode = 0#8 then a ∈ r
          else if mode = 1#8 then a ∈ s.latch ∧ a ∈ r
          else if mode = 2#8 then a ∈ s.latch ∨ a ∈ r
          else (a ∈ s.latch ∧ a ∉ r) ∨ (a ∉ s.latch ∧ a ∈ r)) ∧
        bitmap.length = 2 * (l.toNat + 1 - f.toNat) ∧
        (∀ k p, f.toNat + k ≤ l.toNat → p < 16 →
          ((bitmap.getD (2 * k + (if p < 8 then 1 else 0)) 0#8).getLsbD (p % 8) = true ↔
            16 * (f.toNat + k) + p ∈ t.latch)) ∧
        t.Replied tag (.matchTerminals f l care pat st mode)
          (.ok (.matched f.toNat l.toNat r.length bitmap t.latch.length)) ∧
        { t.still with latch := [] } = { s.counted.still with latch := [] }) ∧
    ((63 < f.toNat ∨ 63 < l.toNat ∨ l.toNat < f.toNat ∨ 3 < mode.toNat ∨ (∃ w, st = some w ∧ 512 ≤ w.toNat)) →
      Completes (.matchTerminals tag f l care pat st mode) s tag (.matchTerminals f l care pat st mode)
        (.fail .outOfRange) s.counted)

/-- BULK_UPDATE (R153, R154): each selected entry's MASKED and WATCH are what the operation gives them where the
attribute is named, and nothing else of it changes but REPORTED, which becomes set exactly when the update clears
MASKED on an unreported, unfolded off entry; each such entry offers TERMINAL_OFF in its off class, in ascending
address order (R157). Every address outside the selection, the latch and every other table stay. The three counts
add up to the selection size times the attributes named. The selection is the latch, or the bitmap's addresses. A
source or operation outside its values, a bad range, and a bitmap of another length are refused, the range before
the length (assumption 37). -/
def Obligations.BulkUpdateWritesSelection : Prop :=
  ∀ (tag src attrs op values first last : Byte) (bitmap : List Byte) (s : State), s.Listens →
    s.halted = false →
    (∀ (o : BulkOp) (sel : List Nat) (m w : Terminal → Bool), bulkOpOf op.toNat = some o →
      (src = 0#8 ∧ sel = s.latch ∧ risingAddrs s.latch = true) ∨
        (src = 1#8 ∧ sel = bitmapAddrs first.toNat bitmap ∧ first.toNat ≤ last.toNat ∧ last.toNat ≤ 63 ∧
          bitmap.length = 2 * (last.toNat + 1 - first.toNat)) →
      m = (fun e => if attrs.getLsbD 1 then o.value e.prov.masked (values.getLsbD 1) else e.prov.masked) →
      w = (fun e => if attrs.getLsbD 0 then o.value e.prov.watch (values.getLsbD 0) else e.prov.watch) →
      ∃ (t : State) (changed unchanged skipped : Nat),
        exec (.bulkUpdate tag src attrs op values first last bitmap) s = .next t ∧
        t.Replied tag (.bulkUpdate src attrs op values first last bitmap)
          (.ok (.bulk sel.length (attrCount attrs) changed unchanged skipped
            (s.unmaskedIn (fun e => e.unmaskedTo (m e)) sel).length)) ∧
        changed + unchanged + skipped = sel.length * attrCount attrs ∧
        (∀ a, a ∉ sel → t.term? a = s.term? a) ∧
        (∀ a ∈ sel, t.term? a = (s.term? a).map fun e => { e with
          prov := { e.prov with masked := m e, watch := w e }
          reported := e.reported || (e.unmaskedTo (m e) && e.offUnreported) }) ∧
        { t.still with terms := [] } =
          { (overKeys (s.unmaskedIn (fun e => e.unmaskedTo (m e)) sel)
              (fun a x => match s.term? a with | some e => x.offerUnmasked a e | none => x) s.counted).still with
            terms := [] }) ∧
    ((1 < src.toNat ∨ 3 < op.toNat ∨
        (src = 1#8 ∧ (63 < first.toNat ∨ 63 < last.toNat ∨ last.toNat < first.toNat))) →
      Completes (.bulkUpdate tag src attrs op values first last bitmap) s tag
        (.bulkUpdate src attrs op values first last bitmap) (.fail .outOfRange) s.counted) ∧
    (src = 1#8 → op.toNat ≤ 3 → first.toNat ≤ last.toNat → last.toNat ≤ 63 →
      bitmap.length ≠ 2 * (last.toNat + 1 - first.toNat) →
      Completes (.bulkUpdate tag src attrs op values first last bitmap) s tag
        (.bulkUpdate src attrs op values first last bitmap) (.fail .badLength) s.counted)

/-! ## Fault records -/

/-- A record that opens takes the next fault id, or, where open records hold it, the first id after it that none
holds, 65535 being followed by 1; the next id is then the one after the id taken (R132), and a domain subject is DECIDED
holding it (R131). No other record changes. With 32 records open none is recorded and no id is taken: the
fault-table-full count rises, and the first refusal of an episode offers TABLE_FULL with that count and sets the episode
mark, which the removal of a record clears; a FEEDER_LOSS refused so leaves every window and terminal as it was
(R134). -/
def Obligations.NewFaultIdIsFree : Prop :=
  (∀ (s : State) (k : FaultKind) (subject : Nat), s.faults.length < 32 → 1 ≤ s.faultCtl.nextId →
    s.faultCtl.nextId ≤ 65535 →
    ∃ id n, (s.openFault k subject).2 = some id ∧ 1 ≤ id ∧ id ≤ 65535 ∧ s.fault? id = none ∧
      n ≤ 31 ∧ id = (fun i => if i = 65535 then 1 else i + 1)^[n] s.faultCtl.nextId ∧
      (∀ j, j < n →
        (s.fault? ((fun i => if i = 65535 then 1 else i + 1)^[j] s.faultCtl.nextId)).isSome = true) ∧
      (s.openFault k subject).1.fault? id = some (newFault k subject s.clock.uptime) ∧
      (s.openFault k subject).1.faultCtl = { s.faultCtl with nextId := if id = 65535 then 1 else id + 1 } ∧
      (∀ d, k.onDomain = true → s.domain? subject = some d →
        (s.openFault k subject).1.domain? subject = some { d with window := .decided id }) ∧
      (∀ j, k.onDomain = false ∨ j ≠ subject → (s.openFault k subject).1.domain? j = s.domain? j) ∧
      (∀ j, j ≠ id → (s.openFault k subject).1.fault? j = s.fault? j)) ∧
  (∀ (s : State) (k : FaultKind) (subject : Nat), 32 ≤ s.faults.length →
    (s.openFault k subject).2 = none ∧
    (s.openFault k subject).1 =
      { s with
        faultCtl := ⟨s.faultCtl.nextId, inc16 s.faultCtl.fullCount, true⟩
        notices := if s.faultCtl.episode then s.notices
          else (s.offer .major (.tableFull k (s.faultSubject k subject) (inc16 s.faultCtl.fullCount))).notices }) ∧
  (∀ (s : State) (x : Nat) (f : FaultRecord), s.fault? x = some f →
    (s.removeFault x).faultCtl = { s.faultCtl with episode := false }) ∧
  (∀ (s : State) (d : Nat), 32 ≤ s.faults.length → s.faultOn .feederLoss d = none →
    (s.feederLoss d).domains = s.domains ∧ (s.feederLoss d).terms = s.terms ∧ (s.feederLoss d).faults = s.faults)

/-- FAULT_ACK sets the acknowledged flag and stops the reminder, and nothing else; ids that name no open record
are refused (R143). -/
def Obligations.FaultAckStopsReminder : Prop :=
  ∀ (tag : Byte) (i : Word16) (s : State), s.Listens → s.halted = false →
    (∀ f, i.toNat ≠ 0 → s.fault? i.toNat = some f →
      Completes (.faultAck tag i) s tag (.faultAck i)
        (.ok (.faultAcked i.toNat f.state f.reminders f.acked))
        { s.counted with
          faults := Table.modify s.faults i.toNat fun f => { f with acked := true, reminder := none } }) ∧
    (i.toNat = 0 → Completes (.faultAck tag i) s tag (.faultAck i) (.fail .outOfRange) s.counted) ∧
    (i.toNat ≠ 0 → s.fault? i.toNat = none →
      Completes (.faultAck tag i) s tag (.faultAck i) (.fail .notFound) s.counted)

/-- FAULT_CLEAR of an open record (R144, R96): the record and every record linked below it, at any depth, are gone;
none of their terminals stays linked, each of them keeps its state and is REPORTED; the reply carries the numbers of
records and of terminals (a parent that closes in turn is not counted, assumption 36). For a top record no other
record changes; a parent loses a child and makes progress (R137), or goes in turn with its own FAULT_CLOSED when it is
a top record with nothing left (R139). With no notice held, FAULT_CLOSED with reason HOST is offered first and is the
only notice but for that one; that it carries 0 terminals released and 0 children unlinked is the model's choice
(assumption 45). The subject domain of every record removed, a parent that goes in turn among them, is QUIET (R131),
and no other window changes where no parent can go. Provisioning, the units and the latch stay. An id outside
1..65535, or that no open record holds, is refused (R144). The `rank` says that the parent links make no ring. -/
def Obligations.FaultClearRemoves : Prop :=
  ∀ (tag : Byte) (i : Word16) (s : State), s.Listens → s.halted = false →
    (i.toNat = 0 → Completes (.faultClear tag i) s tag (.faultClear i) (.fail .outOfRange) s.counted) ∧
    (i.toNat ≠ 0 → s.fault? i.toNat = none →
      Completes (.faultClear tag i) s tag (.faultClear i) (.fail .notFound) s.counted) ∧
    (∀ (f : FaultRecord) (rank : Nat → Nat), i.toNat ≠ 0 → s.fault? i.toNat = some f → Table.distinct s.terms →
      Table.distinct s.faults → (∀ x g p, s.fault? x = some g → g.parent = some p → rank p < rank x) →
      ∃ (t o : State) (n k : Nat), exec (.faultClear tag i) s = .next t ∧
        t.Replied tag (.faultClear i) (.ok (.faultCleared n k)) ∧
        o = s.offer .info (.faultClosed i.toNat f.kind (s.faultSubject f.kind f.subject) .host true f.openedAt
          f.affected 0 0 f.acked f.reminders) ∧
        t.fault? i.toNat = none ∧ (∀ x, s.Below x i.toNat → t.fault? x = none) ∧
        (∃ gone : List Nat, gone.Nodup ∧ (∀ x, x ∈ gone ↔ x = i.toNat ∨ s.Below x i.toNat) ∧ n = gone.length ∧
          k = (s.terms.filter fun e => e.2.link.any fun x => decide (x ∈ gone)).length ∧
          (∀ a e, s.term? a = some e → ∃ e', t.term? a = some e' ∧ e'.state = e.state ∧ e'.prov = e.prov ∧
            e'.holdDown = e.holdDown ∧ e'.gaspHold = e.gaspHold ∧ e'.prior = e.prior ∧
            (e.link.any (fun x => decide (x ∈ gone)) = true → e'.link = none ∧ e'.reported = true) ∧
            (e.link.any (fun x => decide (x ∈ gone)) = false → e' = e))) ∧
        (∀ x g, x = i.toNat ∨ s.Below x i.toNat → s.fault? x = some g → g.kind.onDomain = true →
          s.windowOf g.subject = .decided x → t.windowOf g.subject = .quiet) ∧
        (f.parent = none → (∀ x, x ≠ i.toNat → ¬ s.Below x i.toNat → t.fault? x = s.fault? x) ∧
          (∀ d, (∀ x, s.windowOf d = .decided x → x ≠ i.toNat ∧ ¬ s.Below x i.toNat) →
            t.windowOf d = s.windowOf d) ∧
          (f.held = false → t.notices.still = o.notices.still)) ∧
        (∀ p q, f.parent = some p → s.fault? p = some q → q.kind ≠ .unitLost →
          (0 < q.off ∨ 1 < q.children →
            t.fault? p = some (s.progressed { q with children := q.children - 1 }) ∧
            (∀ x, x ≠ i.toNat → x ≠ p → ¬ s.Below x i.toNat → t.fault? x = s.fault? x) ∧
            (f.held = false → t.notices.still = o.notices.still)) ∧
          (q.off = 0 → q.children ≤ 1 → t.fault? p = none ∧
            (q.kind.onDomain = true → s.windowOf q.subject = .decided p → t.windowOf q.subject = .quiet) ∧
            (q.parent = none → f.held = false → q.held = false →
              t.notices.still = (o.offer .info (.faultClosed p q.kind (s.faultSubject q.kind q.subject) .cleared false
                q.openedAt q.affected 0 0 q.acked q.reminders)).notices.still))) ∧
        t.settings = s.settings ∧ t.latch = s.latch ∧ t.store = s.store ∧ t.units = s.units ∧
        t.learned = s.learned ∧
        t.domains.map (fun (e : Nat × Domain) => (e.1, e.2.fields)) =
          s.domains.map (fun (e : Nat × Domain) => (e.1, e.2.fields)))

/-- A due expiry comes when it is told (assumption 2). The clearing timer's expiry removes the record (R140). Its
terminals are unfolded, each REPORTED afterwards unless MASKED (R96). Each linked child becomes a top record,
announced, with its reminder timer started when it is due. A parent's child count falls by one and makes progress
(R137), or the parent goes with it (R139); no other record changes. The subject domain of each record removed is
QUIET (R131), and below a top record no other domain changes. With no notice held, the notices are TERMINAL_OFF
for the released terminals (off time: assumption 39), FAULT_OPENED for the children not yet announced (not "had been
held": assumption 44), and for a top record FAULT_CLOSED with reason CLEARING_LIMIT and both numbers. The reminder
timer's expiry counts a reminder, offers FAULT_REMINDER with it in the class of the record, and starts the timer
again (R142, R146). The `rank` says that the parent links make no ring. -/
def Obligations.FaultTimersExpire : Prop :=
  ∀ (i : Word16) (s : State) (f : FaultRecord), s.halted = false → s.fault? i.toNat = some f →
    (f.clearing = some 0 → Table.distinct s.terms →
      ∃ t, exec (.clearingTimerExpiry i) s = .next t ∧ t.fault? i.toNat = none ∧
        (∀ a e, s.term? a = some e → ∃ e', t.term? a = some e' ∧ e'.state = e.state ∧ e'.prov = e.prov ∧
          e'.link ≠ some i.toNat ∧ (e.link ≠ some i.toNat → e' = e) ∧
          (e.link = some i.toNat → e' = { e with link := none, reported := e.reported || !e.prov.masked })) ∧
        t.settings = s.settings ∧ t.units = s.units ∧ t.latch = s.latch ∧ t.learned = s.learned ∧
        (f.kind.onDomain = true → s.windowOf f.subject = .decided i.toNat → t.windowOf f.subject = .quiet) ∧
        (f.parent = none → ∀ d, f.kind.onDomain = false ∨ d ≠ f.subject → t.domain? d = s.domain? d) ∧
        (∀ rank : Nat → Nat, Table.distinct s.faults →
          (∀ x g p, s.fault? x = some g → g.parent = some p → rank p < rank x) →
          (∀ c g, s.fault? c = some g → g.parent = some i.toNat → t.fault? c = some { g with
            parent := none
            announced := true
            held := g.held && g.announced
            reminder := if g.acked = false ∧ s.settings.reminder.toNat ≠ 0 then
                some (s.settings.reminder.toNat * 60000)
              else g.reminder }) ∧
          (f.parent = none →
            (∀ y g, y ≠ i.toNat → s.fault? y = some g → g.parent ≠ some i.toNat → t.fault? y = some g) ∧
            (f.held = false → t.notices.still = ((s.limitOffers i.toNat).offer .info (.faultClosed i.toNat f.kind
              (s.faultSubject f.kind f.subject) .clearingLimit false f.openedAt f.affected
              (s.linkedTerms i.toNat).length (s.childFaults i.toNat).length f.acked f.reminders)).notices.still)) ∧
          (∀ p q, f.parent = some p → s.fault? p = some q → q.kind ≠ .unitLost →
            (0 < q.off ∨ 1 < q.children →
              t.fault? p = some (s.progressed { q with children := q.children - 1 }) ∧
              (∀ y g, y ≠ i.toNat → y ≠ p → s.fault? y = some g → g.parent ≠ some i.toNat → t.fault? y = some g) ∧
              (f.held = false → t.notices.still = (s.limitOffers i.toNat).notices.still)) ∧
            (q.off = 0 → q.children ≤ 1 → t.fault? p = none ∧
              (q.kind.onDomain = true → s.windowOf q.subject = .decided p → t.windowOf q.subject = .quiet))))) ∧
    (f.reminder = some 0 →
      ∃ t, exec (.reminderTimerExpiry i) s = .next t ∧
        t.fault? i.toNat = some { f with
          reminders := inc8 f.reminders
          reminder := if s.settings.reminder.toNat = 0 then none
            else some (s.settings.reminder.toNat * 60000) } ∧
        (∀ j, j ≠ i.toNat → t.fault? j = s.fault? j) ∧
        t.notices.still = (s.offer (s.faultClass f.kind f.subject) (.faultReminder i.toNat f.kind
          (s.faultSubject f.kind f.subject) f.state f.openedAt f.affected f.off f.children
          (inc8 f.reminders))).notices.still ∧
        { t.still with faults := [], notices := newQueues } = { s.still with faults := [], notices := newQueues })

/-! ## Correlation -/

/-- A SPLITTER close decides by the first step of R119 that applies: the tap evidence with a member at least,
and else the shares; and for a level of any kind the shares decide in the order of steps 2 to 6, F being
256 × N_d / M and P 256 × N_g / M, each rounded down (R117). -/
def Obligations.SplitterDecides : Prop :=
  (∀ (s : State) (d : DomainFields) (m nd ng : Nat), d.level = .splitter →
    ((∃ x, d.tap = some x ∧ (s.tapPoint x.1 x.2).level = .los) → 1 ≤ m →
      s.decideClose d m nd ng = (.fibreCut, 1)) ∧
    (¬((∃ x, d.tap = some x ∧ (s.tapPoint x.1 x.2).level = .los) ∧ 1 ≤ m) →
      s.decideClose d m nd ng = decideByShares s.settings .splitter m nd ng)) ∧
  (∀ (c : Settings) (l : Level) (m nd ng : Nat),
    (m = 0 → decideByShares c l m nd ng = (.none, 2)) ∧
    (0 < m → m < c.nmin l → decideByShares c l m nd ng = (.individual, 3)) ∧
    (0 < m → c.nmin l ≤ m → c.tf l ≤ 256 * nd / m → decideByShares c l m nd ng = (.fibreCut, 4)) ∧
    (0 < m → c.nmin l ≤ m → 256 * nd / m < c.tf l → c.tp l ≤ 256 * ng / m →
      decideByShares c l m nd ng = (.powerCut, 5)) ∧
    (0 < m → c.nmin l ≤ m → 256 * nd / m < c.tf l → 256 * ng / m < c.tp l →
      decideByShares c l m nd ng = (.individual, 6)))

/-- A window closes at its expiry and at a DECIDE_NOW with the effects of a close: the domain is DECIDED when the
close recorded a fault and QUIET otherwise, and DECIDE_NOW reports its figures (R112, R114). An expiry acts at the end
of the window or later, when it is told (the model's choice, assumption 2). DECIDE_NOW of a domain that is not OPEN
answers NO_WINDOW and changes nothing; positions are checked. Who is counted at a SPLITTER is R115's table; at a
SEGMENT or FEEDER it is the children that are populated or hold an open fault (R116), and those levels decide by the
shares alone, a FEEDER with a channel NONE (R120). A close without a record releases the held members or offers the
held child notices (R122); one with a record folds the held and the unfolded off members (R123) or links the
children's loose records (R124); and the record goes to the parent: offered at the top, linked below a DECIDED
ancestor, else held in the parent's window, which opens or extends (R125, R110, R111). A fault decision is recorded
when it finds a member to fold and the table has room (R121); where only the table has none, TABLE_FULL comes before
the outcome's notices (R134). Those are TERMINAL_OFF with reason WINDOW of each released member without MASKED, in
address order (R94, R103), FAULT_OPENED "had been held" of each held child notice, in the order of the children
(R146), or FAULT_OPENED of a new top record as the folds and links leave it; a record that is held or linked offers
nothing. Where the record opens the parent's window the pacing level returns to 1, a running gap ends, and the step
timer starts in full or, under the window flag, stops; otherwise, as at an extension, the scheduler stays as it is
(R55). -/
def Obligations.WindowCloses : Prop :=
  (∀ (i : Nat) (s : State) (d : Domain) (start stop cap : Uptime), s.domain? i = some d →
    d.window = .open start stop cap →
    ∃ s1 r, s.closeWindow i = some (s1, r) ∧ r.start = start ∧ r.stop = stop ∧ r.level = d.fields.level ∧
      s1.windowOf i = (match r.recorded with | some (x, _) => .decided x | none => .quiet) ∧
      (r.m, r.nd, r.ng) = s.figures i d.fields.level ∧
      r.shares = (if r.m = 0 then none else some (256 * r.nd / r.m, 256 * r.ng / r.m)) ∧
      (r.decision, r.step) = s.decideClose d.fields r.m r.nd r.ng ∧
      (r.recorded.isSome = true ↔ s.AsksRecord i r.level r.decision ∧ s.faults.length < 32)) ∧
  (∀ (i : BitVec 6) (s s1 : State) (r : CloseReport), s.halted = false → s.closeWindow i.toNat = some (s1, r) →
    later r.stop s.clock.uptime = false →
    ∃ t, exec (.windowTimerExpiry i) s = .next t ∧ t.still = s1.still) ∧
  (∀ (tag i : Byte) (s s1 : State) (r : CloseReport), s.halted = false → s.Listens → i.toNat ≤ 63 →
    s.counted.closeWindow i.toNat = some (s1, r) →
    Completes (.decideNow tag i) s tag (.decideNow i) (.ok (.decided r)) s1) ∧
  (∀ (tag i : Byte) (s : State), s.halted = false → s.Listens →
    (∀ d, i.toNat ≤ 63 → s.domain? i.toNat = some d → d.window.isOpen = false →
      Completes (.decideNow tag i) s tag (.decideNow i) ⟨.ok, false, true, .noWindow d.window⟩ s.counted) ∧
    (i.toNat ≤ 63 → s.domain? i.toNat = none →
      Completes (.decideNow tag i) s tag (.decideNow i) (.fail .notFound) s.counted) ∧
    (63 < i.toNat → Completes (.decideNow tag i) s tag (.decideNow i) (.fail .outOfRange) s.counted)) ∧
  (∀ (s : State) (i : Nat) (el : Table Terminal), el = (s.terms.filter fun e =>
      decide (e.2.prov.domain = i ∧ e.2.prov.masked = false ∧ e.2.link = none ∧ e.2.state ≠ .unseen ∧
        e.2.state ≠ .noContact)) →
    s.figures i .splitter = (el.length,
      (el.filter fun e => decide (e.2.state = .heldDark ∨ e.2.state = .offDark)).length,
      (el.filter fun e => decide (e.2.state = .gasped ∨ e.2.state = .heldPower ∨ e.2.state = .offPower)).length)) ∧
  (∀ (s : State) (i c : Nat) (l : Level) (d : Domain), s.domain? c = some d →
    (c ∈ s.eligibleChildren i ↔ c ∈ s.childDomains i ∧
      ((∃ x, d.window = .decided x) ∨ (d.fields.level = .splitter ∧ 0 < (s.figures c .splitter).1) ∨
        (d.fields.level = .segment ∧ ∃ b ∈ s.childDomains c,
          0 < (s.figures b .splitter).1 ∨ ∃ x, s.windowOf b = .decided x))) ∧
    (l ≠ .splitter → s.figures i l = ((s.eligibleChildren i).length,
      ((s.eligibleChildren i).filter fun c => decide (s.heldKind c = some .fibreCut ∨
        s.heldKind c = some .feederLoss)).length,
      ((s.eligibleChildren i).filter fun c => decide (s.heldKind c = some .powerCut)).length))) ∧
  (∀ (s : State) (d : DomainFields) (m nd ng : Nat),
    (d.level = .segment → s.decideClose d m nd ng = decideByShares s.settings .segment m nd ng) ∧
    (d.level = .feeder → d.channel = none → s.decideClose d m nd ng = decideByShares s.settings .feeder m nd ng) ∧
    (d.level = .feeder → d.channel.isSome = true → s.decideClose d m nd ng = (.none, 0))) ∧
  (∀ (s s1 : State) (i : Nat) (r : CloseReport), s.Keyed → s.Linked → s.FaultsAgree →
    s.closeWindow i = some (s1, r) →
    (∀ b : State, r.recorded = none → b = (if s.AsksRecord i r.level r.decision
        then s.offerTableFull (if r.decision = .fibreCut then .fibreCut else .powerCut) i else s) →
      (r.level = .splitter → r.released = (s.heldEntries i).length ∧
        s1.notices = ((s.heldEntries i).foldl (fun x e => x.offerWindowOff e.1 e.2) b).notices) ∧
      (r.level ≠ .splitter → r.offered = (s.heldRecords i).length ∧
        s1.notices = ((s.heldRecords i).foldl (fun x e =>
          x.offer (s.faultClass e.2.kind e.2.subject) (s.openedNotice e.1 e.2 true)) b).notices)) ∧
    (∀ x h g, r.recorded = some (x, h) → s1.fault? x = some g →
      s1.notices = (if s.parentOf i = none then s.offer (s.faultClass g.kind i) (s.openedNotice x g false)
        else s).notices) ∧
    (r.level = .splitter → r.recorded = none → ∀ a e, s.term? a = some e →
      s1.term? a = some (if e.prov.domain = i ∧ e.held = true then { e with
          state := if e.state = .heldDark then .offDark else .offPower
          lit := false
          prior := none
          lastCause := some (if e.state = .heldDark then .dark else .power)
          reported := e.reported || (!e.prov.masked && e.link.isNone) }
        else e)) ∧
    (∀ x h, r.level = .splitter → r.recorded = some (x, h) → s.fault? x = none ∧
      (∃ g, s1.fault? x = some g ∧ g.subject = i ∧ g.affected = min r.folded 512 ∧ g.off = min r.folded 512 ∧
        g.kind = (if r.decision = .fibreCut then .fibreCut else .powerCut)) ∧
      ∀ a e, s.term? a = some e →
        s1.term? a = some (if e.prov.domain = i ∧ e.held = true then { e with
            state := if e.state = .heldDark then .offDark else .offPower
            lit := false
            prior := none
            lastCause := some (if e.state = .heldDark then .dark else .power)
            link := some x }
          else if e.prov.domain = i ∧ e.state.isOff = true ∧ e.link = none then { e with link := some x }
          else e)) ∧
    (r.level ≠ .splitter → r.recorded = none → s1.terms = s.terms ∧
      ∀ c y g, c ∈ s.childDomains i → s.windowOf c = .decided y → s.fault? y = some g → g.held = true →
        ∃ g', s1.fault? y = some g' ∧ g'.held = false ∧ g'.announced = true ∧ g'.parent = g.parent) ∧
    (∀ x h, r.level ≠ .splitter → r.recorded = some (x, h) → s1.terms = s.terms ∧ s.fault? x = none ∧
      (∃ g, s1.fault? x = some g ∧ g.subject = i ∧ g.children = r.linked) ∧
      ∀ c y g, c ∈ s.eligibleChildren i → s.windowOf c = .decided y → s.fault? y = some g → g.parent = none →
        s1.fault? y = some { g with parent := some x, held := false, reminder := none }) ∧
    (∀ x h, r.recorded = some (x, h) → ∃ g, s1.fault? x = some g ∧ g.held = h ∧
      (s.parentOf i = none → h = false ∧ g.announced = true ∧ g.parent = none) ∧
      (∀ p, s.parentOf i = some p →
        (∀ y, s.decidedFrom 3 (some p) = some y → h = false ∧ g.announced = false ∧ g.parent = some y) ∧
        (s.decidedFrom 3 (some p) = none → h = true ∧ g.announced = false ∧ g.parent = none ∧
          (s1.windowOf p).isOpen = true ∧ ∀ d, s.domain? p = some d → s1.windowOf p = s.windowAfter d))) ∧
    (∀ p d, r.recorded.isSome = true → s.parentOf i = some p → s.decidedFrom 3 (some p) = none →
      s.domain? p = some d → d.window = .quiet → s.ReturnsPacing s1) ∧
    (r.recorded = none ∨ s.parentOf i = none ∨ (∃ p, s.parentOf i = some p ∧
        (s.decidedFrom 3 (some p) ≠ none ∨ (s.windowOf p).isOpen = true)) → s1.sched = s.sched))

/-- What an event does to a static entry, with no resync mark. DARK (R87, R109): in UNSEEN, LIT or GASPED, with no
DECIDED domain from its splitter upward, it is held, gasp-backed when it was GASPED, and the splitter's window opens
or extends with the times of R110 and R111, as at a GASP that is a member event (an opening returns the pacing level
to 1, an extension leaves the scheduler as it is, R55); else it is folded into the nearest DECIDED domain's record,
whose affected and off counts rise by one; in RESTORING it is a flap, after which the off condition dates from its
first dark again (R92, assumption 39). GASP (R86) starts the gasp hold, starts it again, or makes a dark hold
gasp-backed; LIGHT (R88) lights an UNSEEN entry, ends a hold as a transient and starts the hold-down of an off entry;
duplicates and late gasps are only counted (R89). Under a resync mark a record that confirms the present state is only
counted, and any other is taken as if the mark were clear (R102). An event of an address with no entry goes to the
learned table and offers UNPROVISIONED (R10, R11). -/
def Obligations.DarkIsHeldOrFolded : Prop :=
  (∀ (s : State) (floor port : Nat) (time : Uptime) (t : Terminal),
    s.term? (addrOf floor port) = some t → (t.state = .unseen ∨ t.state = .lit ∨ t.state = .gasped) →
    (s.decidedFrom 3 (some t.prov.domain) = none →
      ∃ e, (s.takeEvent floor false .dark port time).term? (addrOf floor port) = some e ∧
        e.state = (if t.state = .gasped then .heldPower else .heldDark) ∧ e.gaspHold = none ∧
        e.lastChange = some time ∧ e.link = t.link ∧
        (∀ d, s.domain? t.prov.domain = some d →
          ((s.takeEvent floor false .dark port time).windowOf t.prov.domain).isOpen = true ∧
          (s.takeEvent floor false .dark port time).windowOf t.prov.domain = s.windowAfter d) ∧
        (∀ c, c ≠ t.prov.domain → (s.takeEvent floor false .dark port time).domain? c = s.domain? c) ∧
        (s.takeEvent floor false .dark port time).faults = s.faults) ∧
    (∀ x f, s.decidedFrom 3 (some t.prov.domain) = some x → s.fault? x = some f →
      ∃ e, (s.takeEvent floor false .dark port time).term? (addrOf floor port) = some e ∧
        e.state = (if t.state = .gasped then .offPower else .offDark) ∧ e.link = some x ∧
        e.lastChange = some time ∧
        (s.takeEvent floor false .dark port time).fault? x = some { f with
          affected := min (f.affected + 1) 512, off := min (f.off + 1) 512 } ∧
        (s.takeEvent floor false .dark port time).domains = s.domains) ∧
    (∀ b, b ≠ addrOf floor port → (s.takeEvent floor false .dark port time).term? b = s.term? b)) ∧
  (∀ (s t : State) (floor port a : Nat) (time : Uptime) (e : Terminal) (k : EventKind), a = addrOf floor port →
    s.term? a = some e → t = s.takeEvent floor false k port time →
    (k = .dark → e.state = .restoring → ∀ p, e.prior = some p → p.isOff = true →
      t.term? a = some { e with
        state := p, lit := false, prior := none, holdDown := none, flaps := min (e.flaps + 1) 255
        lastChange := e.offSince, offSince := none
        lastCause := some (if p = .offDark then .dark else .power) } ∧ t.faults = s.faults) ∧
    (k = .gasp → (e.state = .unseen ∨ e.state = .lit) → t.term? a = some { e with
      state := .gasped, lit := true, gasp := true, prior := none, lastChange := some time
      gaspHold := some s.settings.gaspHold.toNat }) ∧
    (k = .gasp → e.state = .gasped → t.term? a = some { e with gaspHold := some s.settings.gaspHold.toNat }) ∧
    (k = .gasp → e.state = .heldDark → t.term? a = some { e with
      state := .heldPower, lit := false, gasp := true, prior := none, lastCause := some .power
      lastChange := some time }) ∧
    (k = .gasp → (e.state = .unseen ∨ e.state = .lit ∨ e.state = .gasped ∨ e.state = .heldDark) →
      ∀ d, s.domain? e.prov.domain = some d →
        (t.windowOf e.prov.domain).isOpen =
          ((s.decidedFrom 3 (some e.prov.domain)).isNone || d.window.isOpen) ∧
        t.windowOf e.prov.domain =
          (if (s.decidedFrom 3 (some e.prov.domain)).isNone then s.windowAfter d else d.window)) ∧
    (∀ d, s.domain? e.prov.domain = some d →
      if d.window = .quiet ∧ s.decidedFrom 3 (some e.prov.domain) = none ∧
          (e.state = .unseen ∨ e.state = .lit ∨ e.state = .gasped ∨ e.state = .heldDark) ∧
          (k = .gasp ∨ k = .dark ∧ e.state ≠ .heldDark) then s.ReturnsPacing t
      else t.sched = s.sched) ∧
    (k = .gasp → (e.state = .offDark ∨ e.state = .restoring) →
      t = { s with tally := { s.tally with lateGasps := inc16 s.tally.lateGasps } }) ∧
    (k = .light → e.state = .unseen → t.term? a = some { e with
      state := .lit, lit := true, gasp := false, reported := false, prior := none, lastChange := some time }) ∧
    (k = .light → e.held = true → t.term? a = some { e with
        state := .lit, lit := true, gasp := false, reported := false, prior := none, lastChange := some time } ∧
      t.tally = { s.tally with transients := inc16 s.tally.transients } ∧
      t.notices = (if e.prov.watch = true ∧ e.prov.masked = false
        then s.offer .info (.watch a e.prov.label (.transient e.state) .lit time) else s).notices) ∧
    (k = .light → e.state.isOff = true → t.term? a = some { e with
      state := .restoring, lit := true, prior := some e.state, lastChange := some time
      holdDown := some (s.settings.holdDown.toNat * 1000), offSince := e.lastChange }) ∧
    ((k = .gasp ∧ (e.state = .heldPower ∨ e.state = .offPower ∨ e.state = .noContact) ∨
        k = .dark ∧ (e.held = true ∨ e.state.isOff = true ∨ e.state = .noContact) ∨
        k = .light ∧ (e.state = .lit ∨ e.state = .gasped ∨ e.state = .restoring ∨ e.state = .noContact)) →
      t = { s with tally := { s.tally with duplicates := inc16 s.tally.duplicates } }) ∧
    (k ≠ .dark → t.faults = s.faults) ∧ (∀ b, b ≠ a → t.term? b = s.term? b)) ∧
  (∀ (s : State) (floor port : Nat) (time : Uptime) (e : Terminal) (k : EventKind),
    s.term? (addrOf floor port) = some e →
    (k = .light ∧ e.state = .lit ∨ k = .dark ∧ (e.held = true ∨ e.state.isOff = true ∨
      e.state = .noContact ∧ ∃ p, e.prior = some p ∧ (p.isHeld = true ∨ p.isOff = true))) →
    s.takeEvent floor true k port time =
      { s with tally := { s.tally with absorbed := inc16 s.tally.absorbed } }) ∧
  (∀ (s : State) (floor port : Nat) (time : Uptime) (e : Terminal) (k : EventKind),
    s.term? (addrOf floor port) = some e →
    ¬ (k = .light ∧ e.state = .lit ∨ k = .dark ∧ (e.held = true ∨ e.state.isOff = true ∨
      e.state = .noContact ∧ ∃ p, e.prior = some p ∧ (p.isHeld = true ∨ p.isOff = true))) →
    s.takeEvent floor true k port time = s.takeEvent floor false k port time) ∧
  (∀ (s t : State) (floor port a : Nat) (resync : Bool) (time : Uptime) (k : EventKind), a = addrOf floor port →
    s.term? a = none → t = s.takeEvent floor resync k port time →
    t.terms = s.terms ∧ t.faults = s.faults ∧ t.domains = s.domains ∧
    (∀ e, Table.get? s.learned a = some e →
      Table.get? t.learned a = some { e with last := k, age := 0, heard := true } ∧
      (∀ b, b ≠ a → Table.get? t.learned b = Table.get? s.learned b) ∧
      t.learned.map Prod.fst = s.learned.map Prod.fst ∧ t.tally = s.tally ∧
      t.notices = (if resync = true ∧ e.last = k then s
        else s.offer .info (.unprovisioned a k time true)).notices) ∧
    (Table.get? s.learned a = none → s.learned.length < 64 →
      t.learned = s.learned ++ [(a, ⟨floor, s.clock.uptime, k, 0, true⟩)] ∧ t.tally = s.tally ∧
      t.notices = (s.offer .info (.unprovisioned a k time true)).notices) ∧
    (Table.get? s.learned a = none → 64 ≤ s.learned.length → t.learned = s.learned ∧
      t.tally = { s.tally with learnedFull := inc16 s.tally.learnedFull } ∧
      t.notices = (s.offer .info (.unprovisioned a k time false)).notices))

/-! ## Notices and frames -/

/-- An offer is settled at once by the first row of R160 that applies, and a floor's masked count rises only at
row 2 (R160, R162). A drop arms an EMPTY overflow slot with count 1, and raises the count of an ARMED or DUE one;
the other rows leave the slot (R165). -/
def Obligations.OfferIsSettledAtOnce : Prop :=
  ∀ (s : State) (c : NoticeClass) (b : NoticeBody),
    ((s.offer c b).notices.get c).offered = inc32 (s.notices.get c).offered ∧
    ((s.offer c b).notices.get c).sent = (s.notices.get c).sent ∧
    (if s.enables.on c = false ∨ (∃ f, b.terminalFloor = some f ∧ s.floorMask.getLsbD f = true) then
      ((s.offer c b).notices.get c).masked = inc16 (s.notices.get c).masked ∧
      ((s.offer c b).notices.get c).queue = (s.notices.get c).queue ∧
      ((s.offer c b).notices.get c).dropped = (s.notices.get c).dropped ∧
      ((s.offer c b).notices.get c).slot = (s.notices.get c).slot ∧
      ((s.offer c b).notices.get c).slotCount = (s.notices.get c).slotCount
    else if c.capacity ≤ (s.notices.get c).queue.length then
      ((s.offer c b).notices.get c).dropped = inc16 (s.notices.get c).dropped ∧
      ((s.offer c b).notices.get c).queue = (s.notices.get c).queue ∧
      ((s.offer c b).notices.get c).masked = (s.notices.get c).masked ∧
      ((s.notices.get c).slot = .empty → ((s.offer c b).notices.get c).slot = .armed ∧
        ((s.offer c b).notices.get c).slotCount = 1) ∧
      ((s.notices.get c).slot ≠ .empty → ((s.offer c b).notices.get c).slot = (s.notices.get c).slot ∧
        ((s.offer c b).notices.get c).slotCount = inc16 (s.notices.get c).slotCount)
    else
      ((s.offer c b).notices.get c).queue = (s.notices.get c).queue ++ [⟨s.clock.uptime, b⟩] ∧
      ((s.offer c b).notices.get c).masked = (s.notices.get c).masked ∧
      ((s.offer c b).notices.get c).dropped = (s.notices.get c).dropped ∧
      ((s.offer c b).notices.get c).slot = (s.notices.get c).slot ∧
      ((s.offer c b).notices.get c).slotCount = (s.notices.get c).slotCount) ∧
    (∀ f, Table.get? (s.offer c b).notices.floorMasked f =
      if s.enables.on c = true ∧ b.terminalFloor = some f ∧ s.floorMask.getLsbD f = true then
        some (inc16 ((Table.get? s.notices.floorMasked f).getD 0))
      else Table.get? s.notices.floorMasked f) ∧
    (∀ c', c' ≠ c → (s.offer c b).notices.get c' = s.notices.get c')

/-- The last byte of a class notice's frame leaves the line: the notice leaves the head of its queue and counts
as sent, and nothing but the line's next frame changes (R164). With the class's slot ARMED and nothing earlier
ready, its OVERFLOW is begun at once with the slot's count and the class's drop count, and the slot is EMPTY
(R163, R165). The last byte of a reply's frame takes its request out of the buffer (R173). With no reply, no
PART_GASP and no OVERFLOW ready, a class notice is begun: under STRICT that of the highest class that has one,
under WEIGHTED that of the highest class that has one and a credit, which it uses, a new round of 8, 4, 2 and 1
credits beginning where no class has both (R163). A round also ends at a boundary at which every class is empty or has
used its credit, though a reply is sent there (R163, assumption 40). -/
def Obligations.SentFrameLeaves : Prop :=
  (∀ (s : State) (c : NoticeClass) (n : Notice) (rest : List Notice), s.link.tx = some (.notice c n) →
    (s.notices.get c).queue = n :: rest →
    ∃ t, exec .frameBoundary s = .next t ∧ (t.notices.get c).queue = rest ∧
      (t.notices.get c).sent = inc32 (s.notices.get c).sent ∧
      (t.notices.get c).offered = (s.notices.get c).offered ∧
      (t.notices.get c).dropped = (s.notices.get c).dropped ∧
      (∀ c', c' ≠ c → (t.notices.get c').queue = (s.notices.get c').queue ∧
        (t.notices.get c').sent = (s.notices.get c').sent) ∧
      { t.still with notices := newQueues } = { s.still with notices := newQueues } ∧
      ((s.notices.get c).slot = .armed → (∀ c', (s.notices.get c').slot ≠ .due) → s.halted = false →
        s.link.buffer = [] → s.link.restart = false → s.notices.partGasp = none →
        t.link.tx = some (.overflow c (s.notices.get c).slotCount (s.notices.get c).dropped s.clock.uptime) ∧
        (t.notices.get c).slot = .empty ∧ (t.notices.get c).slotCount = 0)) ∧
  (∀ (s : State) (kind tag : Byte) (r : Reply), s.link.tx = some (.reply kind tag r) →
    ∃ t, exec .frameBoundary s = .next t ∧ t.still = s.still ∧
      t.link.buffer.length = (s.link.buffer.filter fun e => match e.cond with
        | .sending _ => false
        | _ => true).length) ∧
  (∀ (s : State) (c : NoticeClass) (n : Notice) (rest : List Notice) (c0 : NoticeClass) (k d : Nat) (u : Uptime),
    s.link.tx = some (.overflow c0 k d u) → s.halted = false → s.link.buffer = [] → s.link.restart = false →
    s.notices.partGasp = none → (∀ c', (s.notices.get c').slot ≠ .due) → (s.notices.get c).queue = n :: rest →
    (s.settings.discipline = 0 → (∀ c', c'.code < c.code → (s.notices.get c').queue = []) →
      ∃ t, exec .frameBoundary s = .next t ∧ t.link.tx = some (.notice c n) ∧ t.notices = s.notices) ∧
    (s.settings.discipline ≠ 0 → 0 < s.notices.credits.get c →
      (∀ c', c'.code < c.code → (s.notices.get c').queue = [] ∨ s.notices.credits.get c' = 0) →
      ∃ t, exec .frameBoundary s = .next t ∧ t.link.tx = some (.notice c n) ∧
        t.notices = { s.notices with credits := s.notices.credits.spend c }) ∧
    (s.settings.discipline ≠ 0 → (∀ c', (s.notices.get c').queue = [] ∨ s.notices.credits.get c' = 0) →
      (∀ c', c'.code < c.code → (s.notices.get c').queue = []) →
      ∃ t, exec .frameBoundary s = .next t ∧ t.link.tx = some (.notice c n) ∧
        t.notices = { s.notices with credits := (⟨8, 4, 2, 1⟩ : Credits).spend c })) ∧
  (∀ (s : State) (c0 : NoticeClass) (k d : Nat) (u : Uptime), s.link.tx = some (.overflow c0 k d u) →
    s.halted = false → s.settings.discipline ≠ 0 →
    (∀ c', (s.notices.get c').queue = [] ∨ s.notices.credits.get c' = 0) →
    ((∀ c', (s.notices.get c').queue = []) ∨ ∃ e ∈ s.link.buffer, ∃ r, e.cond = .answered r) →
    ∃ t, exec .frameBoundary s = .next t ∧ t.notices.credits = ⟨8, 4, 2, 1⟩)

/-! ## Save, starts, HALTED -/

/-- CONFIG_SAVE goes in hand: a copy of the provisioning with the save count plus one is being written over the
image area (R185, R186), and nothing else changes. -/
def Obligations.ConfigSaveGoesInHand : Prop :=
  ∀ (tag : Byte) (s : State), s.Serves →
    ∃ t, exec (.configSave tag) s = .next t ∧
      t.link.buffer.getLast? = some ⟨tag, .configSave, .inHand⟩ ∧
      t.still = { s.counted with
        store := { s.store with
          flash := .cut
          saving := some ⟨s.terms.map fun (e : Nat × Terminal) => (e.1, e.2.prov),
            s.domains.map fun (e : Nat × Domain) => (e.1, e.2.fields), s.units.map Prod.fst, s.settings, s.floorMask, s.enables,
            min (s.store.saveCount + 1) 4294967295⟩ } }.still

/-- The save completes: the image stands with a check that a load accepts, the save count in RAM is the image's,
and the CONFIG_SAVE in hand is answered (R184, R185). -/
def Obligations.SaveCompletes : Prop :=
  ∀ (s : State) (i : Image), s.store.saving = some i →
    ∃ t, exec .configSaveComplete s = .next t ∧
      t.still = { s with store := { s.store with
        flash := .written i (crc32 i.bytes), saving := none, saveCount := i.saveCount } }.still ∧
      t.store.flash.load = some i ∧
      (∀ e ∈ s.link.buffer, e.cond = .inHand → e.req = .configSave →
        ∃ e' ∈ t.link.buffer, e'.tag = e.tag ∧ e'.req = .configSave ∧
          (e'.cond = .answered (.ok (.saved i.saveCount i.terms.length i.domains.length i.floors.length)) ∨
           e'.cond = .sending (.ok (.saved i.saveCount i.terms.length i.domains.length i.floors.length))))

/-- A power-on or pin reset with the image of a completed save in the flash restores exactly the provisioning,
settings, masks and save count that the save copied, with every runtime record new, and no CONFIG_LOST; the
part is HALTED when the supply-fail input signals failure (R8, R20, R23, R184, R187). -/
def Obligations.SavedImageIsLoaded : Prop :=
  ∀ (s saved : State) (n : Nat) (strap1 strap0 pfail cold : Bool),
    s.store.flash = .written (saved.image n) (crc32 (saved.image n).bytes) →
    ∃ t, exec (if cold then .powerOnReset strap1 strap0 pfail else .pinReset strap1 strap0 pfail) s = .next t ∧
      t.terms = (saved.terms.map fun e => (e.1, newTerminal e.2.prov)) ∧
      t.domains = (saved.domains.map fun e => (e.1, newDomain e.2.fields)) ∧
      t.units = (saved.units.map fun e => (e.1, newUnit)) ∧
      t.settings = saved.settings ∧ t.floorMask = saved.floorMask ∧ t.enables = saved.enables ∧
      t.store.saveCount = n ∧ t.store.imageLoaded = true ∧ t.store.saving = none ∧ t.faults = [] ∧
      t.learned = [] ∧ t.latch = [] ∧ t.link.buffer = [] ∧ t.clock = ⟨0, 0⟩ ∧ t.halted = pfail ∧
      t.notices.major.queue = [] ∧ t.link.rate = rateOf strap1 strap0

/-- A power-on or pin reset whose image check fails starts with empty tables and the defaults, and offers
CONFIG_LOST and then STARTED, both queued, since every class is enabled; the part is HALTED when the supply-fail
input signals failure (R187). -/
def Obligations.FailedImageStartsEmpty : Prop :=
  ∀ (s : State) (strap1 strap0 pfail cold : Bool), s.store.flash.load = none →
    ∃ t, exec (if cold then .powerOnReset strap1 strap0 pfail else .pinReset strap1 strap0 pfail) s = .next t ∧
      t.terms = [] ∧ t.domains = [] ∧ t.units = [] ∧ t.settings = defaultSettings ∧ t.floorMask = 0 ∧
      t.enables = ⟨true, true, true, true⟩ ∧ t.store.saveCount = 0 ∧ t.store.imageLoaded = false ∧
      t.halted = pfail ∧
      t.notices.major.queue = [⟨0, .configLost (decide (s.store.flash = .erased))⟩] ∧
      t.notices.info.queue = [⟨0, .started (if cold then .powerOn else .pin) .checkFailed 0 0 0 0
        (rateOf strap1 strap0)⟩] ∧
      (pfail = false → t.link.tx = some (.notice .major ⟨0, .configLost (decide (s.store.flash = .erased))⟩))

/-- SOFT_RESTART is answered OK at its taking in every state, HALTED included, and no later request is taken
(R169, R188). -/
def Obligations.SoftRestartIsAnswered : Prop :=
  (∀ (tag : Byte) (s : State), s.Listens →
    Completes (.softRestart tag) s tag .softRestart (.ok .empty)
      { s.counted with link := { s.counted.link with restart := true } }) ∧
  (∀ (i : Instr) (tag : Byte) (r : Request) (s : State), i.request = some (tag, r) → i.wf = true →
    s.link.buffer.length < 4 → s.link.restart = true →
    ∃ t, exec i s = .next t ∧ t.link.buffer.getLast? = some ⟨tag, r, .waiting⟩ ∧ t.still = s.counted.still)

/-- The soft restart, performed once only requests not taken are buffered and the line is at a boundary, keeps
the provisioning, settings, masks, save count and line rate, discards the buffer and starts the rest anew (R188,
R8, R106, R147, R170). -/
def Obligations.SoftRestartKeepsProvisioning : Prop :=
  ∀ (s : State) (pfail : Bool), s.link.restart = true → (∀ e ∈ s.link.buffer, e.cond = .waiting) → s.link.tx = none →
    ∃ t, exec (.softRestartPerformed pfail) s = .next t ∧
      t.terms = (s.terms.map fun e => (e.1, newTerminal e.2.prov)) ∧
      t.domains = (s.domains.map fun e => (e.1, newDomain e.2.fields)) ∧
      t.units = (s.units.map fun e => (e.1, newUnit)) ∧ t.settings = s.settings ∧
      t.floorMask = s.floorMask ∧ t.enables = s.enables ∧ t.store.saveCount = s.store.saveCount ∧
      t.store.flash = s.store.flash ∧ t.link.rate = s.link.rate ∧ t.link.buffer = [] ∧
      t.link.restart = false ∧ t.halted = pfail ∧ t.faults = [] ∧ t.learned = [] ∧ t.latch = [] ∧
      t.clock = ⟨0, 0⟩ ∧ t.faultCtl = ⟨1, 0, false⟩

/-- SUPPLY_FAIL (R167 to R169, R63, R186): the part is HALTED, PART_GASP is on the line with the uptime, the
open records and the save flag, every request in hand is answered HALTED, the pending CLEAR and the save are
gone, and every table stands. In HALTED it has no effect. There no riser command goes out, and the attention line, the
timers, the feeder samples and the end of a save that is gone change nothing and offer no notice (R48, R63, R81, R167,
R169); the attempt in progress ends on the wire, no retry follows it, and its reply reaches no table, counter or contact
state (R48). -/
def Obligations.SupplyFailHalts : Prop :=
  (∀ s : State, s.halted = false →
    ∃ (t : State) (p : PartGasp), exec .supplyFail s = .next t ∧ t.halted = true ∧ t.link.tx = some (.partGasp p) ∧
      p.uptime = s.clock.uptime ∧ p.faults = s.faults.length ∧ p.saving = s.store.saving.isSome ∧
      (∀ e ∈ t.link.buffer, e.cond ≠ .inHand) ∧
      (∀ e ∈ s.link.buffer, e.cond = .inHand →
        (⟨e.tag, e.req, .answered (.fail .halted)⟩ : Entry) ∈ t.link.buffer) ∧
      t.sched.pendingClear = none ∧ t.store.saving = none ∧
      t.store.flash = s.store.flash ∧ t.store.saveCount = s.store.saveCount ∧ t.terms = s.terms ∧
      t.learned = s.learned ∧ t.domains = s.domains ∧ t.faults = s.faults ∧ t.faultCtl = s.faultCtl ∧
      t.units = s.units ∧ t.feeders = s.feeders ∧ t.taps = s.taps ∧ t.latch = s.latch ∧
      t.settings = s.settings ∧ t.clock = s.clock ∧ t.floorMask = s.floorMask ∧ t.enables = s.enables) ∧
  (∀ s : State, s.halted = true → ∃ t, exec .supplyFail s = .next t ∧ t.still = s.still) ∧
  (∀ (s : State) (i : Instr), s.halted = true →
    (i = .attentionAsserted ∨ i = .gapTimerExpiry ∨ i = .stepTimerExpiry ∨ i = .agingTick ∨
      (i = .configSaveComplete ∧ s.store.saving = none) ∨
      (∃ h, i = .poll h ∨ i = .status h ∨ i = .clear h ∨ i = .riserBusy h) ∨
      (∃ a, i = .gaspHoldExpiry a ∨ i = .holdDownExpiry a) ∨ (∃ d, i = .windowTimerExpiry d) ∨
      (∃ x, i = .clearingTimerExpiry x ∨ i = .reminderTimerExpiry x) ∨
      (∃ c0 c1 c2 c3, i = .feederSample c0 c1 c2 c3)) →
    ∃ t, exec i s = .next t ∧ t.still = s.still ∧ t.riser.txn = s.riser.txn) ∧
  (∀ (s : State) (i : Instr), s.halted = true →
    (i = .replyWindowExpiry ∨ i = .replyAbandoned ∨ i = .clearTransactionEnd ∨
      ∃ chars, i = .riserReplyReceived chars) →
    ∃ t, exec i s = .next t ∧
      t.still = { s with
        fmus := t.fmus, riser := { s.riser with quiet := t.riser.quiet, heard := t.riser.heard } }.still ∧
      t.fmus.map (fun e => (e.1, { e.2 with deaf := false })) =
        s.fmus.map (fun e => (e.1, { e.2 with deaf := false })) ∧
      (t.riser.txn = s.riser.txn ∨ t.riser.txn = none) ∧
      (∀ o n ph el w, s.riser.txn = some ⟨o, n, ph, el, w⟩ →
        ((∃ f, o.floor? = some f) ∧ (i = .replyWindowExpiry ∧ ph = .sent ∧ 4 ≤ el ∨
          i = .replyAbandoned ∧ ph = .replying ∧ 20 ≤ el ∨
          (∃ chars, i = .riserReplyReceived chars) ∧ (ph = .sent ∧ el ≤ 4 ∨ ph = .replying ∧ el ≤ 20)) ∨
        o.floor? = none ∧ i = .clearTransactionEnd ∧ ph = .sent ∧ s.riser.quiet = true) →
        t.riser.txn = none))

/-! ## Riser -/

/-- The attention line goes low: with a transaction in progress only the mark is set (R41); with the bus free,
no sweep and no CLEAR pending, the pacing level returns to 1 and the sweep's first visit goes to the first floor
in contact after the last polled one, in rising order round from 63 to 0 (R55, R58, R59). While the line is low
the mark is set after the command in any case (R41). -/
def Obligations.AttentionStartsSweep : Prop :=
  (∀ s : State, s.halted = false → s.riser.txn.isSome = true →
    ∃ t, exec .attentionAsserted s = .next t ∧ t.still = { s with riser := { s.riser with mark := true } }.still ∧
      t.riser.txn = s.riser.txn) ∧
  (∀ (s : State) (f k : Nat) (u : FloorUnit), s.halted = false → s.riser.txn = none → s.sched.sweep = none →
    s.sched.pendingClear = none → s.sched.lastPolled = some f → f ≤ 63 → k ≤ 63 →
    s.unit? ((f + 1 + k) % 64) = some u → u.contact ≠ .silent →
    (∀ j, j < k → ∀ v, s.unit? ((f + 1 + j) % 64) = some v → v.contact = .silent) →
    ∃ t, exec .attentionAsserted s = .next t ∧ t.sched.level = 1 ∧
      t.sched.lastPolled = some ((f + 1 + k) % 64) ∧
      t.riser.txn = some ⟨if u.baseline = true then .status ((f + 1 + k) % 64)
        else .poll ((f + 1 + k) % 64) (u.seq.getD false), 0, .toSend, 0, false⟩ ∧
      t.units = s.units ∧ t.terms = s.terms ∧ t.faults = s.faults ∧ t.domains = s.domains) ∧
  (∀ s : State, s.halted = false →
    (∃ e ∈ s.fmus, ∃ r ∈ e.2.queue, r.kind = .gasp ∨ r.kind = .dark ∨ r.kind = .unitGasp) →
    ∃ t, exec .attentionAsserted s = .next t ∧ t.riser.mark = true)

/-- A command that waits to be sent goes out on a quiet line, and its attempt begins: POLL, STATUS and CLEAR
each by its own row. A POLL or STATUS raises the unit's polls sent; no table but the units' counters and the
FMUs changes (R33, R35). A command whose line has not been quiet for 20 ms is sent anyway, and the riser busy
count rises (R24). -/
def Obligations.CommandsGoOut : Prop :=
  (∀ (s : State) (h : Hearing) (n el : Nat), s.halted = false → s.riser.quiet = true →
    (∀ f b, s.riser.txn = some ⟨.poll f b, n, .toSend, el, false⟩ →
      ∃ t, exec (.poll h) s = .next t ∧ t.riser.txn = some ⟨.poll f b, n + 1, .sent, 0, false⟩ ∧
        (∀ u, s.unit? f = some u → t.unit? f = some { u with
          counters := { u.counters with polls := inc16 u.counters.polls } }) ∧
        (∀ g, g ≠ f → t.unit? g = s.unit? g) ∧ t.terms = s.terms ∧ t.faults = s.faults ∧ t.domains = s.domains) ∧
    (∀ f, s.riser.txn = some ⟨.status f, n, .toSend, el, false⟩ →
      ∃ t, exec (.status h) s = .next t ∧ t.riser.txn = some ⟨.status f, n + 1, .sent, 0, false⟩ ∧
        (∀ u, s.unit? f = some u → t.unit? f = some { u with
          counters := { u.counters with polls := inc16 u.counters.polls } }) ∧
        (∀ g, g ≠ f → t.unit? g = s.unit? g) ∧ t.terms = s.terms ∧ t.faults = s.faults ∧ t.domains = s.domains) ∧
    (∀ sc, s.riser.txn = some ⟨.clear sc, n, .toSend, el, false⟩ →
      ∃ t, exec (.clear h) s = .next t ∧ t.riser.txn = some ⟨.clear sc, n + 1, .sent, 0, false⟩ ∧
        t.units = s.units ∧ t.terms = s.terms ∧ t.faults = s.faults ∧ t.domains = s.domains)) ∧
  (∀ (s : State) (h : Hearing) (t0 : Txn), s.halted = false → s.riser.quiet = false → s.riser.txn = some t0 →
    t0.phase = .toSend → 20 ≤ t0.elapsed →
    ∃ t, exec (.riserBusy h) s = .next t ∧ t.riser.busy = inc16 s.riser.busy ∧
      t.riser.txn = some { t0 with attempts := t0.attempts + 1, phase := .sent, elapsed := 0 } ∧
      t.terms = s.terms ∧ t.faults = s.faults ∧ t.domains = s.domains ∧ t.settings = s.settings)

/-- An FMU that hears a POLL undamaged, on a quiet line or sent on an unquiet one (R24, R29): with the bit of its held
reply it holds the same records and its queue stays; with another bit, or none held, the oldest 6 records move from
the queue into the held reply. FMUs strapped to other floors do not change, but in ignoring the line, and every FMU of
the floor that hears the POLL puts one reply on the pair (R26), each of its characters with odd parity and its stop
bit (R24): an event reply with its records, the bit and the more flag. One that hears a STATUS undamaged answers with
its light map and held sequence, and neither its queue nor its held reply changes (R30). One that hears a CLEAR
undamaged that names its floor, by BROADCAST, GROUP or UNICAST_QUIET (R26, R27), sends nothing, discards its queue and
held reply, and records a DARK of age 0 for every dark port, in rising order (R31). An FMU that hears a later
character in error takes no action; one that hears the address byte in error ignores that frame and every later one,
until the line goes quiet at the end of a reply or by a millisecond without a character (R25; the model's grain,
assumption 6). Who hears what comes with the command (assumption 5). -/
def Obligations.PollMovesRecords : Prop :=
  (∀ (s : State) (i : Instr) (h : Hearing) (f n el : Nat) (b : Bool), s.halted = false →
    (i = .poll h ∧ s.riser.quiet = true ∨ i = .riserBusy h ∧ s.riser.quiet = false ∧ 20 ≤ el) →
    s.riser.txn = some ⟨.poll f b, n, .toSend, el, false⟩ → f ≤ 63 →
    ∃ t, exec i s = .next t ∧
      (∀ k u, Table.get? s.fmus k = some u → u.floor = f → u.Hears h k →
        (∀ recs, u.held = some (b, recs) → Table.get? t.fmus k = some u) ∧
        ((∀ recs, u.held ≠ some (b, recs)) →
          Table.get? t.fmus k = some { u with queue := u.queue.drop 6, held := some (b, u.queue.take 6) })) ∧
      (∀ k u, Table.get? s.fmus k = some u → (u.floor ≠ f ∨ ¬ u.Hears h k) →
        Table.get? t.fmus k = some (u.heardOf h k)) ∧
      t.riser.wire = ((s.fmus.filter fun e => decide (e.2.floor = f ∧ e.2.Hears h e.1)).map fun e =>
          (eventReply f b (!(e.2.answerPoll b).1.queue.isEmpty) (e.2.answerPoll b).2 (tapsOf h e.1).1
            (tapsOf h e.1).2).map sentChar) ∧
      (∀ reply ∈ t.riser.wire, ∀ c ∈ reply, c.stop = true ∧
        (((List.range 8).filter c.data.getLsbD).length + (if c.parity then 1 else 0)) % 2 = 1)) ∧
  (∀ (s : State) (i : Instr) (h : Hearing) (f n el : Nat), s.halted = false →
    (i = .status h ∧ s.riser.quiet = true ∨ i = .riserBusy h ∧ s.riser.quiet = false ∧ 20 ≤ el) →
    s.riser.txn = some ⟨.status f, n, .toSend, el, false⟩ → f ≤ 63 →
    ∃ t, exec i s = .next t ∧ t.fmus = (s.fmus.map fun e => (e.1, e.2.heardOf h e.1)) ∧
      t.riser.wire = ((s.fmus.filter fun e => decide (e.2.floor = f ∧ e.2.Hears h e.1)).map fun e =>
          (mapReply f e.2.light (e.2.held.map Prod.fst) (tapsOf h e.1).1 (tapsOf h e.1).2).map sentChar)) ∧
  (∀ (s : State) (i : Instr) (h : Hearing) (sc : Scope) (n el : Nat), s.halted = false →
    (i = .clear h ∧ s.riser.quiet = true ∨ i = .riserBusy h ∧ s.riser.quiet = false ∧ 20 ≤ el) →
    s.riser.txn = some ⟨.clear sc, n, .toSend, el, false⟩ → (∀ g, sc = .group g → g ≤ 7) →
    (∀ f, sc = .one f → f ≤ 63) →
    ∃ t, exec i s = .next t ∧ t.riser.wire = [] ∧ t.fmus.map Prod.fst = s.fmus.map Prod.fst ∧
      ∀ k u, Table.get? s.fmus k = some u →
        (u.Hears h k → (sc = .all ∨ sc = .group (u.floor / 8) ∨ sc = .one u.floor) →
          Table.get? t.fmus k = some { u with
            queue := ((List.range 16).filter fun p => u.light.getLsbD p = false).map fun p => ⟨.dark, p, 0⟩
            held := none }) ∧
        (¬ u.Hears h k ∨ (sc ≠ .all ∧ sc ≠ .group (u.floor / 8) ∧ sc ≠ .one u.floor) →
          Table.get? t.fmus k = some (u.heardOf h k))) ∧
  (∀ (s : State) (chars : List RxChar) (o : Order) (f n el : Nat) (ph : Phase) (w : Bool), o.floor? = some f →
    s.riser.txn = some ⟨o, n, ph, el, w⟩ → (ph = .sent ∧ el ≤ 4 ∨ ph = .replying ∧ el ≤ 20) →
    ∃ t, exec (.riserReplyReceived chars) s = .next t ∧ t.riser.quiet = true ∧
      t.fmus = (s.fmus.map fun e => (e.1, { e.2 with deaf := false }))) ∧
  (∀ s : State, s.pending = [] → ∃ t, step s = .next t ∧
    t.fmus = (s.fmus.map fun e => (e.1, { e.2 with
      queue := e.2.queue.map fun r => { r with age := min (r.age + 1) 65535 }
      held := e.2.held.map fun p => (p.1, p.2.map fun r => { r with age := min (r.age + 1) 65535 })
      deaf := e.2.deaf && s.riser.heard })))

/-- An attempt of a POLL or STATUS fails: no start bit within the 4 ms window, a reply not ended at the 20 ms mark, or
a reply in its time that fails a check of R34, in the order of its table (R33, R34; an expiry comes when it is told,
assumption 2, and a reply whole inside the window stands for its start bit, assumption 20). The attempt is counted;
while the retry setting permits, the identical command waits to be sent again (R35); else it is a miss, which R43's
table carries out: RETRYING, or PRESENT with one more miss, or SILENT as it was; or, at the silent limit, the unit
enters SILENT (R44). After a unit gasp within the gasp hold, with no FLOOR_POWER record of the floor, one opens and
the entries take the floor-power effects (R98), folded into it; with one, it returns to OPEN (R138) and they fold into
that one, without a notice. Without a unit gasp, with neither record open, UNIT_LOST opens and they take the
no-contact effects (R97), as they do where FLOOR_POWER finds no room (R134). A record that opens offers its
FAULT_OPENED (MAJOR, R133), once its entries are folded; one that finds no room offers TABLE_FULL (R134). The second
part writes out the checks of R34 with the reply codes and lengths of R183, and what a good reply carries. -/
def Obligations.FailedAttemptRetriesOrMisses : Prop :=
  (∀ (s : State) (o : Order) (f n el : Nat) (ph : Phase) (u : FloorUnit) (i : Instr)
      (fail : UnitCounters → UnitCounters), s.halted = false →
    o.floor? = some f → s.riser.txn = some ⟨o, n, ph, el, false⟩ → s.unit? f = some u →
    (i = .replyWindowExpiry ∧ ph = .sent ∧ 4 ≤ el ∧ fail = (fun c => { c with noReply := inc16 c.noReply }) ∨
      i = .replyAbandoned ∧ ph = .replying ∧ 20 ≤ el ∧ fail = (fun c => { c with check := inc16 c.check }) ∨
      (∃ chars why, i = .riserReplyReceived chars ∧ (ph = .sent ∧ el ≤ 4 ∨ ph = .replying ∧ el ≤ 20) ∧
        checkReply o chars = .error why ∧ fail = (fun c => match why with
          | .parity => { c with parity := inc16 c.parity }
          | .check => { c with check := inc16 c.check }
          | .wrongAddress => { c with wrongAddress := inc16 c.wrongAddress }))) →
    ∃ t, exec i s = .next t ∧
      (n ≤ s.settings.retries.toNat →
        t.riser.txn = some ⟨o, n, .toSend, 0, false⟩ ∧
        t.unit? f = some { u with counters := fail u.counters } ∧ t.terms = s.terms ∧ t.faults = s.faults ∧
        t.notices.still = s.notices.still) ∧
      (s.settings.retries.toNat < n → u.misses + 1 < s.settings.silentLimit.toNat ∨ u.contact = .silent →
        t.unit? f = some { u with
          contact := (match u.contact with
            | .active => .retrying
            | .retrying => .retrying
            | .present => .present
            | .silent => .silent)
          misses := if u.contact = .silent then u.misses else u.misses + 1
          counters := { fail u.counters with misses := inc16 u.counters.misses } } ∧
        t.terms = s.terms ∧ t.faults = s.faults ∧ t.notices.still = s.notices.still) ∧
      (s.settings.retries.toNat < n → s.settings.silentLimit.toNat ≤ u.misses + 1 → u.contact ≠ .silent →
        t.unit? f = some { u with
          contact := .silent, misses := u.misses + 1, baseline := true, gaspTime := none
          counters := { fail u.counters with misses := inc16 u.counters.misses } } ∧
        ((u.gaspTime = none ∨ (∃ g, u.gaspTime = some g ∧
            s.settings.gaspHold.toNat < (s.clock.uptime - g).toNat * 10) ∨
            (s.faultOn .floorPower f = none ∧ 32 ≤ s.faults.length)) →
          (∀ a e, s.term? a = some e → a / 16 = f → t.term? a = some (
            if e.state = .unseen ∨ e.state = .noContact then { e with contact := false }
            else { e with
              contact := false, state := .noContact, gaspHold := none, holdDown := none, offSince := none
              prior := some (if e.state = .restoring then e.prior.getD .offDark else e.state)
              lastChange := some s.clock.uptime })) ∧
          (s.faultOn .floorPower f = none → s.faultOn .unitLost f = none → s.faults.length < 32 →
            ∃ x g, s.fault? x = none ∧ t.fault? x = some g ∧ g.kind = .unitLost ∧ g.subject = f ∧
              g.announced = true ∧ g.affected = 0 ∧
              t.notices.still = (s.offer .major (.faultOpened x .unitLost (.floor f) none s.clock.uptime 0 0 0
                false)).notices.still) ∧
          (s.faultOn .floorPower f = none → 32 ≤ s.faults.length → t.faults = s.faults ∧
            (∀ g, u.gaspTime = some g → (s.clock.uptime - g).toNat * 10 ≤ s.settings.gaspHold.toNat →
              t.notices.still = (s.offerTableFull .floorPower f).notices.still) ∧
            ((∀ g, u.gaspTime = some g → s.settings.gaspHold.toNat < (s.clock.uptime - g).toNat * 10) →
              s.faultOn .unitLost f = none →
              t.notices.still = (s.offerTableFull .unitLost f).notices.still)) ∧
          (s.faultOn .floorPower f ≠ none ∨ s.faultOn .unitLost f ≠ none → t.faults = s.faults ∧
            ((∀ g, u.gaspTime = some g → s.settings.gaspHold.toNat < (s.clock.uptime - g).toNat * 10) →
              t.notices.still = s.notices.still))) ∧
        (∀ g k, u.gaspTime = some g → (s.clock.uptime - g).toNat * 10 ≤ s.settings.gaspHold.toNat →
          s.faultOn .floorPower f ≠ none ∨ s.faults.length < 32 → Table.distinct s.terms →
          k = (s.terms.filter fun e => decide (e.1 / 16 = f ∧ (e.2.state = .lit ∨ e.2.state = .gasped ∨
            e.2.state = .restoring ∧ e.2.link = none))).length →
          ∃ x,
            (s.faultOn .floorPower f = none → s.fault? x = none ∧ ∃ r, t.fault? x = some r ∧
              r.kind = .floorPower ∧ r.subject = f ∧ r.announced = true ∧ r.affected = min k 512 ∧
              r.off = min k 512 ∧
              t.notices.still = (s.offer .major (.faultOpened x .floorPower (.floor f) none s.clock.uptime
                (min k 512) (min k 512) 0 false)).notices.still) ∧
            (s.faultOn .floorPower f ≠ none → s.faultOn .floorPower f = some x ∧
              (∀ r, s.fault? x = some r → t.fault? x = some { r with
                state := .opened, lastProgress := s.clock.uptime, clearing := none
                affected := if k = 0 then r.affected else min (r.affected + k) 512
                off := if k = 0 then r.off else min (r.off + k) 512 }) ∧
              t.notices.still = s.notices.still) ∧
            (∀ y, y ≠ x → t.fault? y = s.fault? y) ∧
            ∀ a e, s.term? a = some e → a / 16 = f → t.term? a = some (match e.state with
              | .unseen => { e with
                  contact := false, state := .noContact, prior := some .unseen, gaspHold := none
                  holdDown := none, offSince := none, lastChange := some s.clock.uptime }
              | .lit | .gasped => { e with
                  contact := false, state := .offPower, lit := false, prior := none, gaspHold := none
                  holdDown := none, offSince := none, link := some x, lastCause := some .power
                  lastChange := some s.clock.uptime }
              | .restoring =>
                if e.link = none then { e with
                  contact := false, state := .offPower, lit := false, prior := none, gaspHold := none
                  holdDown := none, offSince := none, link := some x, lastCause := some .power
                  lastChange := some s.clock.uptime }
                else { (e.enter (e.prior.getD .offDark)).stamp s.clock.uptime with
                  contact := false, holdDown := none, offSince := none }
              | .heldDark | .heldPower | .offDark | .offPower | .noContact => { e with contact := false })) ∧
        (∀ a, a / 16 ≠ f → t.term? a = s.term? a)) ∧
      (∀ g, g ≠ f → t.unit? g = s.unit? g)) ∧
  (∀ (o : Order) (f : Nat) (chars : List RxChar), o.floor? = some f →
    ((∃ c ∈ chars, c.stop = false ∨
        (((List.range 8).filter c.data.getLsbD).length + (if c.parity then 1 else 0)) % 2 = 0) →
      checkReply o chars = .error .parity) ∧
    (∀ bytes last, chars = (bytes ++ [last]).map sentChar →
      (crc8 bytes ≠ last → checkReply o chars = .error .check) ∧
      (crc8 bytes = last → (bytes ++ [last]).head? ≠ some (BitVec.ofNat 8 (f % 64)) →
        checkReply o chars = .error .wrongAddress)) ∧
    (∀ rest, chars = (closeFrame (BitVec.ofNat 8 (f % 64) :: rest)).map sentChar →
      (∀ b, o = .poll f b →
        ((¬ ∃ code count tail, rest = code :: count :: tail ∧ code.extractLsb' 4 4 = 1#4 ∧
            code.getLsbD 3 = false ∧ code.getLsbD 2 = false ∧ code.getLsbD 0 = b ∧ count.toNat ≤ 6 ∧
            chars.length = 8 + 3 * count.toNat) → checkReply o chars = .error .check) ∧
        (∀ code count tail, rest = code :: count :: tail → code.extractLsb' 4 4 = 1#4 →
          code.getLsbD 3 = false → code.getLsbD 2 = false → code.getLsbD 0 = b → count.toNat ≤ 6 →
          chars.length = 8 + 3 * count.toNat →
          checkReply o chars = .ok (.events (code.getLsbD 1)
            ((List.range count.toNat).map fun j =>
              ⟨match ((tail.getD (3 * j) 0).extractLsb' 4 4).toNat with
                | 1 => some .gasp
                | 2 => some .dark
                | 3 => some .light
                | 4 => some .unitGasp
                | _ => none,
                (tail.getD (3 * j) 0).toNat % 16,
                (tail.getD (3 * j + 1) 0).toNat * 256 + (tail.getD (3 * j + 2) 0).toNat⟩)
            (tail.getD (3 * count.toNat) 0 ++ tail.getD (3 * count.toNat + 1) 0)
            (tail.getD (3 * count.toNat + 2) 0 ++ tail.getD (3 * count.toNat + 3) 0)))) ∧
      (o = .status f →
        ((¬ ∃ code tail, rest = code :: tail ∧ code.extractLsb' 4 4 = 2#4 ∧ code.getLsbD 3 = false ∧
            code.getLsbD 2 = false ∧ (code.getLsbD 1 = false ∨ code.getLsbD 0 = false) ∧ chars.length = 9) →
          checkReply o chars = .error .check) ∧
        (∀ code l1 l0 a1 a0 b1 b0, rest = [code, l1, l0, a1, a0, b1, b0] → code.extractLsb' 4 4 = 2#4 →
          code.getLsbD 3 = false → code.getLsbD 2 = false → (code.getLsbD 1 = false ∨ code.getLsbD 0 = false) →
          checkReply o chars = .ok (.map (l1 ++ l0)
            (if code.getLsbD 1 then none else some (code.getLsbD 0)) (a1 ++ a0) (b1 ++ b0))))))

/-- A reply that passes every check of R34 for a POLL, begun within the 4 ms window (a whole reply inside it standing
for its start bit, assumption 20) and ended within 20 ms: the unit's misses are 0, its contact state moves by the
table of R42, its sequence bit toggles (R36), the good replies rise, and its resync mark lasts only with the more flag
(R62); no other unit changes. What the return of the unit tells the fault table comes first (R42, R45; written out in
MapReplyBaselinesFloor). Its records reach the terminal table in order, each with its event time and the resync mark
(R37, R85), then the tap trailer reaches the power tables (R39). A UNIT_GASP sets the unit-gasp time (R38), and with
no such record an FMU that was PRESENT loses the one that it held. Known kinds count as events and others as unknown
(R37). An urgent record returns the pacing level to 1 (R55). With neither attention nor a CLEAR waiting, the more flag
brings another POLL to the unit with the toggled bit, at most three in a visit (R52); else the visit ends, and outside
a sweep the cycle goes on to its next floor, or its end raises the cycle count and starts the gap of the level then in
force (R50, R54). A transaction whose floor was made ABSENT changes no unit, entry, record or tap slot, whatever the
reply (R22). -/
def Obligations.GoodReplyUpdatesUnit : Prop :=
  (∀ (s : State) (f n el : Nat) (b more : Bool) (u : FloorUnit) (ph : Phase) (chars : List RxChar)
    (recs : List WireRecord) (ta tb : Word16), s.halted = false →
    s.riser.txn = some ⟨.poll f b, n, ph, el, false⟩ → (ph = .sent ∧ el ≤ 4 ∨ ph = .replying ∧ el ≤ 20) →
    s.unit? f = some u →
    checkReply (.poll f b) chars = .ok (.events more recs ta tb) →
    ∃ (t : State) (u' : FloorUnit), exec (.riserReplyReceived chars) s = .next t ∧ t.unit? f = some u' ∧ u'.misses = 0 ∧
      u'.contact = (if u.contact = .silent then .present else .active) ∧ u'.seq = some (!b) ∧
      u'.counters.good = inc16 u.counters.good ∧ u'.counters.misses = u.counters.misses ∧
      u'.resync = (u.resync && more) ∧ u'.baseline = u.baseline ∧
      (∀ g, g ≠ f → t.unit? g = s.unit? g) ∧ t.settings = s.settings ∧ t.latch = s.latch ∧
      t.terms.map (fun (e : Nat × Terminal) => (e.1, e.2.prov)) =
        s.terms.map (fun (e : Nat × Terminal) => (e.1, e.2.prov)) ∧
      u'.counters.events = inc16^[(recs.filter fun r => r.kind.isSome).length] u.counters.events ∧
      u'.counters.unknown = inc16^[(recs.filter fun r => r.kind.isNone).length] u.counters.unknown ∧
      u'.gaspTime = (match (recs.filter fun r => decide (r.kind = some .unitGasp)).getLast? with
        | some r => some (s.clock.uptime - BitVec.ofNat 32 (r.age / 10))
        | none => if u.contact = .present then none else u.gaspTime) ∧
      ((∃ r ∈ recs, r.kind = some .gasp ∨ r.kind = some .dark ∨ r.kind = some .unitGasp) → t.sched.level = 1) ∧
      (∀ x y : State, x = recs.foldl (fun x r => match r.kind with
            | none => x
            | some .unitGasp => x
            | some k => x.takeEvent f u.resync k r.port (s.clock.uptime - BitVec.ofNat 32 (r.age / 10)))
            (s.contactGood f u) →
          y = (x.tapReading f .a ta).tapReading f .b tb →
          t.terms = y.terms ∧ t.learned = y.learned ∧ t.tally = y.tally ∧ t.domains = y.domains ∧
            t.faults = y.faults ∧ t.faultCtl = y.faultCtl ∧ t.taps = y.taps ∧ t.notices.still = y.notices.still) ∧
      (s.riser.mark = false → s.attnLow = false → s.sched.pendingClear = none → s.sched.sweepWanted = false →
        (∀ k, s.sched.visit = some ⟨f, k, false⟩ → more = true → k < 3 →
          t.riser.txn = some ⟨.poll f (!b), 0, .toSend, 0, false⟩ ∧ t.sched.visit = some ⟨f, k + 1, false⟩ ∧
          t.sched.lastPolled = some f ∧ t.sched.count = s.sched.count) ∧
        ((∀ v, s.sched.visit = some v → more = false ∨ 3 ≤ v.extra) → s.sched.sweep = none → s.sched.gap = none →
          (∀ p g w, s.sched.pos = some p → t.nextOfCycle p s.sched.count s.sched.skip = some (g, w) →
            t.unit? g = some w → t.riser.txn = some (w.firstOf g) ∧ t.sched.visit = some ⟨g, 0, false⟩ ∧
            t.sched.lastPolled = some g ∧ t.sched.count = s.sched.count) ∧
          ((∀ p, s.sched.pos = some p → t.nextOfCycle p s.sched.count s.sched.skip = none) →
            0 < gapBetweenCycles t.sched.level s.sched.cycleUsed → 1 ≤ s.sched.level → s.sched.level ≤ 8 →
            t.riser.txn = none ∧ t.sched.count = (s.sched.count + 1) % 8 ∧
            t.sched.gap = some (gapBetweenCycles t.sched.level s.sched.cycleUsed))))) ∧
  (∀ (s : State) (o : Order) (f n el : Nat) (ph : Phase) (chars : List RxChar), s.halted = false →
    o.floor? = some f → s.riser.txn = some ⟨o, n, ph, el, true⟩ →
    (ph = .sent ∧ el ≤ 4 ∨ ph = .replying ∧ el ≤ 20) →
    ∃ t, exec (.riserReplyReceived chars) s = .next t ∧ t.units = s.units ∧ t.terms = s.terms ∧
      t.faults = s.faults ∧ t.taps = s.taps ∧ t.domains = s.domains ∧
      (∀ g t1, checkReply o chars = .ok g → t.riser.txn = some t1 → t1.orphan = false ∧ t1.attempts = 0))

/-- A good map reply in its time (begun within the 4 ms window, a whole reply inside it standing for its start bit,
assumption 20) of a floor that is not SILENT (R36, R39, R40): the baseline mark is cleared and an unknown sequence bit
settled, every entry of the floor has CONTACT, and entries of other floors stay. A lit port lights its UNSEEN or
NO_CONTACT entry, which leaves its record when it was off (R99). A dark port takes an UNSEEN entry, or one whose prior
state is UNSEEN, to OFF_DARK quietly, returns an off one to its off state with link and REPORTED kept, and raises the
others: held in their splitter's open window, or folded, gasp-backed after GASPED and HELD_POWER (R100). An entry in
another state changes in CONTACT only. The entries are taken one after another in the table's order, then
BASELINE_DONE is offered with the static count and the six counts (R101), then come the taps. In the last part, what
one entry does at its turn: a dark raise is that of a DARK in LIT or GASPED at the uptime (R87, R100), and a restore
offers TERMINAL_RESTORED with path BASELINE and the time of last change that the entry had in NO_CONTACT (R104,
assumption 39) or leaves its record as a restore (R91, R99). Of a SILENT floor the reply re-establishes contact only:
PRESENT with no misses and baseline still pending, no entry changing, then the taps (R40, R42). Before all this the
unit's return is told to the fault table: a unit that was PRESENT moves an OPEN FLOOR_POWER record of its floor to
CLEARING (R45, R137), or, where it holds nothing, out with FAULT_CLOSED CLEARED (R139); one that was SILENT closes an
open UNIT_LOST record with FAULT_CLOSED UNIT_RETURNED (R45, R141). -/
def Obligations.MapReplyBaselinesFloor : Prop :=
  (∀ (s : State) (f n el : Nat) (u : FloorUnit) (ph : Phase) (chars : List RxChar) (light : BitVec 16)
    (held : Option Bool) (ta tb : Word16), s.halted = false →
    s.riser.txn = some ⟨.status f, n, ph, el, false⟩ → (ph = .sent ∧ el ≤ 4 ∨ ph = .replying ∧ el ≤ 20) →
    s.unit? f = some u → checkReply (.status f) chars = .ok (.map light held ta tb) →
    ∃ (t : State) (u' : FloorUnit), exec (.riserReplyReceived chars) s = .next t ∧ t.unit? f = some u' ∧
      u'.misses = 0 ∧ u'.counters.good = inc16 u.counters.good ∧
      u'.seq = (match u.seq with | some b => some b | none => some (match held with | some h => !h | none => false)) ∧
      (∀ g, g ≠ f → t.unit? g = s.unit? g) ∧
      (u.contact ≠ .silent → u'.contact = .active ∧ u'.baseline = false ∧
        (∀ a e, s.term? a = some e → a / 16 = f → ∃ e', t.term? a = some e' ∧
          (e.state ≠ .unseen → e.state ≠ .noContact → e' = { e with contact := true }) ∧
          (light.getLsbD (a % 16) = true → e.state = .unseen ∨ (e.state = .noContact ∧ ∃ p, e.prior = some p ∧
              p ∈ [TState.unseen, .lit, .gasped, .heldDark, .heldPower]) →
            e' = { e with
              contact := true, state := .lit, lit := true, gasp := false, reported := false, prior := none
              lastChange := some s.clock.uptime }) ∧
          (light.getLsbD (a % 16) = true → e.state = .noContact → ∀ p, e.prior = some p → p.isOff = true →
            e' = { e with
              contact := true, state := .lit, lit := true, gasp := false, reported := false, prior := none
              link := none, holdDown := none, offSince := none, lastChange := some s.clock.uptime }) ∧
          (light.getLsbD (a % 16) = false →
            e.state = .unseen ∨ (e.state = .noContact ∧ e.prior = some .unseen) → e' = { e with
              contact := true, state := .offDark, lit := false, prior := none, lastCause := some .dark
              reported := false, lastChange := some s.clock.uptime }) ∧
          (light.getLsbD (a % 16) = false → e.state = .noContact → ∀ p, e.prior = some p → p.isOff = true →
            e' = { e with
              contact := true, state := p, lit := false, prior := none
              lastCause := some (if p = .offDark then .dark else .power), lastChange := some s.clock.uptime }) ∧
          (light.getLsbD (a % 16) = false → e.state = .noContact → ∀ p, e.prior = some p →
            p ∈ [TState.lit, .gasped, .heldDark, .heldPower] →
            (∃ x, e' = { e with
              contact := true, state := if p = .lit ∨ p = .heldDark then .offDark else .offPower, lit := false
              prior := none, lastCause := some (if p = .lit ∨ p = .heldDark then .dark else .power), gaspHold := none
              link := some x, lastChange := some s.clock.uptime }) ∨
            (e' = { e with
              contact := true, state := if p = .lit ∨ p = .heldDark then .heldDark else .heldPower, lit := false
              prior := none, lastCause := some (if p = .lit ∨ p = .heldDark then .dark else .power), gaspHold := none
              lastChange := some s.clock.uptime } ∧
              ((s.domain? e.prov.domain).isSome = true → (t.windowOf e.prov.domain).isOpen = true)))) ∧
        (∀ a, a / 16 ≠ f → t.term? a = s.term? a) ∧
        (Table.distinct s.terms →
          ∀ x y : State, x = (s.terms.filter fun e => decide (e.1 / 16 = f)).foldl
              (fun x e => (x.baselineTerm light e.1).1)
              { s.contactGood f u with terms := s.terms.map fun e =>
                  (e.1, if e.1 / 16 = f then { e.2 with contact := true } else e.2) } →
            y = ((x.offer .info (.baselineDone f (s.staticCount f)
              ⟨s.baselineCount f light .lit, s.baselineCount f light .restored, s.baselineCount f light .dark,
                s.baselineCount f light .resumed, s.baselineCount f light .raised,
                s.baselineCount f light .unchanged⟩)).tapReading f .a ta).tapReading f .b tb →
            t.terms = y.terms ∧ t.domains = y.domains ∧ t.faults = y.faults ∧ t.faultCtl = y.faultCtl ∧
              t.taps = y.taps ∧ t.tally = s.tally ∧ t.learned = s.learned ∧ t.notices.still = y.notices.still)) ∧
      (u.contact = .silent → u'.contact = .present ∧ u'.baseline = u.baseline ∧ t.terms = s.terms ∧
        (∀ x, s.faultOn .unitLost f = some x → t.fault? x = none ∧ ∀ y, y ≠ x → t.fault? y = s.fault? y) ∧
        (s.faultOn .unitLost f = none → t.faults = s.faults) ∧
        ∀ y : State, y = ((s.contactGood f u).tapReading f .a ta).tapReading f .b tb →
          t.domains = y.domains ∧ t.faults = y.faults ∧ t.faultCtl = y.faultCtl ∧ t.taps = y.taps ∧
            t.tally = s.tally ∧ t.learned = s.learned ∧ t.notices.still = y.notices.still)) ∧
  (∀ (s w : State) (f : Nat) (u : FloorUnit), w = { s.contactGood f u with units := s.units } →
    (u.contact = .active ∨ u.contact = .retrying ∨ (u.contact = .present ∧ s.faultOn .floorPower f = none) ∨
      (u.contact = .silent ∧ s.faultOn .unitLost f = none) → w = s) ∧
    (∀ x g, u.contact = .present → s.faultOn .floorPower f = some x → s.fault? x = some g → g.kind = .floorPower →
      (g.state = .clearing → w = s) ∧
      (g.state = .opened → 0 < g.off ∨ 0 < g.children → w.fault? x = some (s.progressed g) ∧
        (∀ y, y ≠ x → w.fault? y = s.fault? y) ∧ { w with faults := [] } = { s with faults := [] }) ∧
      (g.state = .opened → g.off = 0 → g.children = 0 → g.parent = none → g.held = false →
        Table.distinct s.faults → g.subject = f → w.fault? x = none ∧ (∀ y, y ≠ x → w.fault? y = s.fault? y) ∧
        w.faultCtl = { s.faultCtl with episode := false } ∧
        w.notices = (s.offer .info (.faultClosed x .floorPower (.floor f) .cleared false g.openedAt g.affected 0 0
          g.acked g.reminders)).notices ∧ w.terms = s.terms ∧ w.domains = s.domains ∧ w.sched = s.sched)) ∧
    (∀ x g, u.contact = .silent → s.faultOn .unitLost f = some x → s.fault? x = some g → g.kind = .unitLost →
      Table.distinct s.faults → g.subject = f → w.fault? x = none ∧ (∀ y, y ≠ x → w.fault? y = s.fault? y) ∧
      w.faultCtl = { s.faultCtl with episode := false } ∧
      w.notices = (s.offer .info (.faultClosed x .unitLost (.floor f) .unitReturned false g.openedAt g.affected 0 0
        g.acked g.reminders)).notices ∧ w.terms = s.terms ∧ w.domains = s.domains ∧ w.sched = s.sched)) ∧
  (∀ (s w : State) (a : Nat) (e : Terminal) (light : BitVec 16) (r : BaselineResult), s.term? a = some e →
    s.baselineTerm light a = (w, r) → (e.state = .noContact → ∃ p, e.prior = some p ∧ p ≠ .restoring ∧ p ≠ .noContact) →
    r = e.countedAs (light.getLsbD (a % 16)) ∧
    (r = .unchanged → w = s) ∧
    (r = .lit → w.terms = (s.modTerm a fun e => { e with
        state := .lit, lit := true, gasp := false, reported := false, prior := none
        lastChange := some s.clock.uptime }).terms ∧ { w with terms := [] } = { s with terms := [] }) ∧
    (r = .dark → w.terms = (s.modTerm a fun e => { e with
        state := .offDark, lit := false, prior := none, lastCause := some .dark, reported := false
        lastChange := some s.clock.uptime }).terms ∧ { w with terms := [] } = { s with terms := [] }) ∧
    (r = .resumed → w.term? a = some { e with
        state := e.prior.getD .offDark, lit := false, prior := none
        lastCause := some (if e.prior = some .offDark then .dark else .power)
        lastChange := some s.clock.uptime } ∧ { w with terms := [] } = { s with terms := [] }) ∧
    (r = .raised → w = (s.modTerm a fun e => { e with
        state := if e.prior = some .gasped ∨ e.prior = some .heldPower then .gasped else .lit }).takeEvent (a / 16)
          false .dark (a % 16) s.clock.uptime) ∧
    (r = .restored → w.domains.map (fun (d : Nat × Domain) => (d.1, d.2.fields)) =
        s.domains.map (fun (d : Nat × Domain) => (d.1, d.2.fields)) ∧
      w.term? a = some { e with
        state := .lit, lit := true, gasp := false, reported := false, prior := none, link := none, holdDown := none
        offSince := none, lastChange := some s.clock.uptime } ∧
      (e.link = none → w.faults = s.faults ∧ w.domains = s.domains ∧
        w.notices = (if e.reported = true ∧ e.prov.notify = true ∧ e.prov.masked = false then
          s.offer .info (.terminalRestored a e.prov.label e.lastCause e.lastChange .baseline e.flaps)
          else s).notices) ∧
      (∀ x g, e.link = some x → s.fault? x = some g → g.kind ≠ .unitLost → Table.distinct s.faults →
        (1 < g.off ∨ 0 < g.children → w.fault? x = some (s.progressed { g with off := g.off - 1 }) ∧
          (∀ y, y ≠ x → w.fault? y = s.fault? y) ∧ w.domains = s.domains ∧ w.notices = s.notices) ∧
        (g.off ≤ 1 → g.children = 0 → w.fault? x = none ∧
          (g.parent = none → g.held = false → w.notices = (s.offer .info (.faultClosed x g.kind
            (s.faultSubject g.kind g.subject) .cleared false g.openedAt g.affected 0 0 g.acked
            g.reminders)).notices)))) ∧
    (∀ b, b ≠ a → w.term? b = s.term? b))

/-- RESYNC goes in hand with its scope as the pending CLEAR, sent at once when the bus is free; a second one is
refused with BUSY, and a scope out of range with OUT_OF_RANGE (R61). A scope of type 0 is all floors whatever its
second byte (the model's choice, assumption 31). -/
def Obligations.ResyncGoesInHand : Prop :=
  ∀ (tag ty w : Byte) (s : State), s.Listens → s.halted = false →
    (∀ sc, scopeOf ty.toNat w.toNat = some sc → s.sched.pendingClear = none →
      ∃ t, exec (.resync tag ty w) s = .next t ∧ t.link.buffer.getLast? = some ⟨tag, .resync ty w, .inHand⟩ ∧
        t.sched.pendingClear = some sc ∧
        (s.riser.txn = none → t.riser.txn = some ⟨.clear sc, 0, .toSend, 0, false⟩) ∧
        t.units = s.units ∧ t.terms = s.terms ∧ t.faults = s.faults ∧ t.notices.still = s.notices.still) ∧
    (∀ sc, scopeOf ty.toNat w.toNat = some sc → s.sched.pendingClear ≠ none →
      Completes (.resync tag ty w) s tag (.resync ty w) (.fail .busy) s.counted) ∧
    ((2 < ty.toNat ∨ (ty = 1#8 ∧ 7 < w.toNat) ∨ (ty = 2#8 ∧ 63 < w.toNat)) →
      Completes (.resync tag ty w) s tag (.resync ty w) (.fail .outOfRange) s.counted)

/-- The CLEAR has been sent and the line has been quiet for two character times (R33): every provisioned floor of
the scope is marked resync pending, whatever its contact state, and no other; the pending CLEAR is cleared and the
RESYNC in hand is answered with the number of floors marked (R61) and its two scope bytes as they came, for type 0
too (the model's choice, assumption 31). While the line is not quiet the CLEAR
transaction goes on. -/
def Obligations.ClearEndMarksFloors : Prop :=
  (∀ (s : State) (sc : Scope) (n el : Nat) (o : Bool), s.halted = false → s.riser.quiet = true →
    s.riser.txn = some ⟨.clear sc, n, .sent, el, o⟩ →
    ∃ t, exec .clearTransactionEnd s = .next t ∧ t.sched.pendingClear = none ∧
      (∀ g u, s.unit? g = some u → t.unit? g = some (if sc.covers g then { u with resync := true } else u)) ∧
      (∀ g, s.unit? g = none → t.unit? g = none) ∧
      (∀ e ∈ s.link.buffer, ∀ ty w, e.cond = .inHand → e.req = .resync ty w →
        ∃ e' ∈ t.link.buffer, e'.tag = e.tag ∧
          (e'.cond = .answered (.ok (.resynced ty w (s.units.filter fun e => sc.covers e.1).length)) ∨
           e'.cond = .sending (.ok (.resynced ty w (s.units.filter fun e => sc.covers e.1).length)))) ∧
      t.terms = s.terms ∧ t.faults = s.faults ∧ t.domains = s.domains) ∧
  (∀ (s : State) (t0 : Txn), s.riser.quiet = false → s.riser.txn = some t0 →
    ∃ t, exec .clearTransactionEnd s = .next t ∧ t.riser.txn = some t0 ∧ t.still = s.still)

/-- A start bit within the 4 ms window begins a reply (R33); a character while no reply is awaited, or after the
window, is discarded and only keeps the line from being quiet (R24, R33), which it is again once a millisecond has
passed without a character (the model's grain, assumption 6). None of this changes a table. -/
def Obligations.CharacterBeginsReply : Prop :=
  (∀ (s : State) (o : Order) (f n el : Nat), o.floor? = some f → s.riser.txn = some ⟨o, n, .sent, el, false⟩ →
    el ≤ 4 →
    ∃ t, exec .riserCharacterReceived s = .next t ∧
      t.riser.txn = some ⟨o, n, .replying, el, false⟩ ∧
      t.still = { s with riser := { s.riser with quiet := false, heard := true } }.still) ∧
  (∀ s : State, (∀ t0, s.riser.txn = some t0 → t0.phase ≠ .sent ∨ 4 < t0.elapsed ∨ t0.order.floor? = none) →
    ∃ t, exec .riserCharacterReceived s = .next t ∧
      (∀ t0, s.riser.txn = some t0 → t.riser.txn = some t0) ∧
      t.still = { s with riser := { s.riser with quiet := false, heard := true } }.still) ∧
  (∀ s : State, s.pending = [] → ∃ t, step s = .next t ∧ t.riser.quiet = !s.riser.heard ∧ t.riser.heard = false ∧
    (∀ t0, s.riser.txn = some t0 → t.riser.txn = some { t0 with
      elapsed := if t0.phase = .toSend ∧ s.riser.heard = false then 0 else t0.elapsed + 1 }))

/-- An FMU adds a record at age 0, its light map following DARK and LIGHT (R28, R30); an FMU that starts, strapped
to a floor, holds no reply and queues a LIGHT for every lit port, in ascending port order (R26, R32). The part's
own tables do not change; only its attention mark follows the line (R41). -/
def Obligations.FmusRecordAndStart : Prop :=
  (∀ (s : State) (f : BitVec 6) (k : EventKind) (p : BitVec 4) (u : Fmu), Table.get? s.fmus f.toNat = some u →
    ∃ (t : State) (u' : Fmu), exec (.fmuEventRecorded f k p) s = .next t ∧ Table.get? t.fmus f.toNat = some u' ∧
      u'.queue = u.queue ++ [⟨k, p.toNat, 0⟩] ∧ u'.held = u.held ∧ u'.floor = u.floor ∧ u'.deaf = u.deaf ∧
      (∀ q, q < 16 → u'.light.getLsbD q =
        if q = p.toNat ∧ k = .dark then false else if q = p.toNat ∧ k = .light then true else u.light.getLsbD q) ∧
      (∀ g, g ≠ f.toNat → Table.get? t.fmus g = Table.get? s.fmus g) ∧
      t.still = { s with fmus := t.fmus }.still) ∧
  (∀ (s : State) (f fl : BitVec 6) (lit : BitVec 16),
    ∃ (t : State) (u' : Fmu), exec (.fmuStart ⟨f, fl⟩ lit) s = .next t ∧ Table.get? t.fmus f.toNat = some u' ∧
      u'.floor = fl.toNat ∧ u'.held = none ∧ u'.deaf = false ∧
      u'.light = lit ∧ u'.queue = (((List.range 16).filter fun p => lit.getLsbD p).map fun p => ⟨.light, p, 0⟩) ∧
      (∀ g, g ≠ f.toNat → Table.get? t.fmus g = Table.get? s.fmus g) ∧
      t.still = { s with fmus := t.fmus }.still)

/-! ## Timers and samples -/

/-- The step timer's expiry raises the pacing level by one, up to 8, and starts again below 8 (R56); the gap timer's
expiry lets the next cycle begin with the first floor that it visits from floor 0 on, or, with none, raises the cycle
count and starts a gap of at least 20 ms (R50, R51, R54). A due expiry comes when it is told (assumption 2). The end
of a transaction: its visit goes on only with the more flag within 3 extra polls (R52), and attention, where it is
told, ends it, unless a sweep is in progress, and brings a sweep and level 1 (R55, R58, R59). What a free bus starts:
the extra poll; the cycle's next floor; at the cycle's end the gap by level, or, where it is 0, the next cycle at
once; the sweep's next floor in contact; and at a sweep's end another one, when the line is low and this one started a
transaction, else the cycle from the resume point (R50 to R54, R58 to R60). After every command outside HALTED a
transaction is in progress or a gap runs. After every command the window flag is set exactly while a domain is OPEN;
under it the step timer stands and the level does not rise; where it clears, the timer starts with a full step
interval, and where it is set, it stops (R56). That the opening of a window returns the level to 1 (R55) is stated
with the openings, in DarkIsHeldOrFolded and WindowCloses. -/
def Obligations.PacingTimersExpire : Prop :=
  (∀ s : State, s.halted = false → s.sched.step = some 0 → s.sched.windowOpen = false → s.openCount = 0 →
    ∃ t, exec .stepTimerExpiry s = .next t ∧ t.sched.level = min (s.sched.level + 1) 8 ∧
      t.sched.step = (if s.sched.level < 7 then some s.settings.stepInterval.toNat else none) ∧
      t.still = { s with sched := { s.sched with level := min (s.sched.level + 1) 8 } }.still) ∧
  (∀ s : State, s.FreeBus → s.sched.gap = some 0 → s.sched.visit = none → s.sched.sweep = none →
    1 ≤ s.sched.level → s.sched.level ≤ 8 →
    ∃ t, exec .gapTimerExpiry s = .next t ∧ t.still = s.still ∧
      (∀ f u, s.nextOfCycle 0 s.sched.count none = some (f, u) → s.unit? f = some u →
        t.sched.gap = none ∧ t.sched.lastPolled = some f ∧ t.sched.count = s.sched.count ∧
        t.riser.txn = some (u.firstOf f)) ∧
      (s.nextOfCycle 0 s.sched.count none = none →
        t.sched.gap = some (gapBetweenCycles s.sched.level false) ∧ t.sched.count = (s.sched.count + 1) % 8 ∧
        t.sched.lastPolled = s.sched.lastPolled ∧ t.riser.txn = none)) ∧
  (∀ (s : State) (more : Bool),
    (s.endTxn more).riser.txn = none ∧
    (s.riser.mark = false → s.attnLow = false →
      (s.endTxn more).sched = { s.sched with visit := match s.sched.visit with
        | some v => if more = true ∧ v.extra < 3 then some { v with again := true } else none
        | none => none }) ∧
    (s.riser.mark = true ∨ s.attnLow = true → (s.endTxn more).sched.level = 1 ∧ (s.endTxn more).sched.gap = none ∧
      (s.sched.sweep = none → (s.endTxn more).sched.sweepWanted = true ∧ (s.endTxn more).sched.visit = none) ∧
      (s.sched.sweep.isSome = true → (s.endTxn more).sched.sweepWanted = s.sched.sweepWanted ∧
        (s.endTxn more).sched.sweep = s.sched.sweep))) ∧
  (∀ s : State, s.FreeBus →
    (∀ f k u, s.sched.visit = some ⟨f, k, true⟩ → s.unit? f = some u → s.schedule =
      { s with
        sched := { s.sched with lastPolled := some f, visit := some ⟨f, k + 1, false⟩ }
        riser := { s.riser with txn := some ⟨.poll f (u.seq.getD false), 0, .toSend, 0, false⟩ } }) ∧
    (s.VisitOver → s.sched.sweep = none →
      (s.sched.gap.isSome = true → s.schedule = { s with sched := { s.sched with visit := none } }) ∧
      (∀ p f u, s.sched.gap = none → s.sched.pos = some p → s.nextOfCycle p s.sched.count s.sched.skip = some (f, u) →
        s.unit? f = some u → s.schedule =
        { s with
          sched := { s.sched with
            pos := if 63 ≤ f then none else some (f + 1)
            cycleUsed := true, cycleWaits := false, lastPolled := some f, visit := some ⟨f, 0, false⟩ }
          riser := { s.riser with txn := some (u.firstOf f) } }) ∧
      (s.sched.gap = none → (∀ p, s.sched.pos = some p → s.nextOfCycle p s.sched.count s.sched.skip = none) →
        1 ≤ s.sched.level → s.sched.level ≤ 8 →
        (0 < gapBetweenCycles s.sched.level s.sched.cycleUsed → s.schedule =
          { s with sched := { s.sched with
              count := (s.sched.count + 1) % 8, pos := none, visit := none, cycleWaits := false
              gap := some (gapBetweenCycles s.sched.level s.sched.cycleUsed) } }) ∧
        (gapBetweenCycles s.sched.level s.sched.cycleUsed = 0 → s.schedule =
          { s with sched := { s.sched with
              count := (s.sched.count + 1) % 8, pos := some 0, skip := none, visit := none
              cycleUsed := false, cycleWaits := false } }.schedule))) ∧
    (∀ w, s.VisitOver → s.sched.sweep = some w → w.final ≤ 63 →
      (∀ m k u, w.next = some m → m ≤ 63 → k ≤ (w.final + 64 - m) % 64 → s.unit? ((m + k) % 64) = some u →
        u.contact ≠ .silent → (∀ j, j < k → ¬ s.inContact ((m + j) % 64)) → s.schedule =
        { s with
          sched := { s.sched with
            sweep := some { w with
              next := if (m + k) % 64 = w.final then none else some ((m + k + 1) % 64), started := true }
            lastPolled := some ((m + k) % 64), visit := some ⟨(m + k) % 64, 0, false⟩ }
          riser := { s.riser with txn := some (u.firstOf ((m + k) % 64)) } }) ∧
      ((∀ m j, w.next = some m → j ≤ (w.final + 64 - m) % 64 → ¬ s.inContact ((m + j) % 64)) →
        (s.attnLow = true → w.started = true → s.schedule =
          { s with sched := { s.sched with
              visit := none
              sweep := some ⟨some (match s.sched.lastPolled with | some f => (f + 1) % 64 | none => 0),
                s.sched.lastPolled.getD 63, w.resume, false⟩ } }.schedule) ∧
        (s.attnLow = false ∨ w.started = false → s.sched.gap = none → s.schedule =
          { s with sched := { s.sched with visit := none, sweep := none, pos := w.resume } }.schedule)))) ∧
  (∀ s : State, s.halted = false → s.riser.txn = none → s.sched.pendingClear = none → s.sched.sweepWanted = true →
    s.schedule =
      { s with sched := { s.sched with
          sweepWanted := false, visit := none
          sweep := some ⟨some (match s.sched.lastPolled with | some f => (f + 1) % 64 | none => 0),
            s.sched.lastPolled.getD 63, s.sched.pos, false⟩ } }.schedule) ∧
  (∀ (c : Instr) (s t : State), exec c s = .next t → t.halted = false → t.riser.txn = none →
    t.sched.gap.isSome = true ∧ t.sched.visit = none ∧ t.sched.sweep = none ∧ t.sched.sweepWanted = false ∧
      t.sched.pendingClear = none) ∧
  (∀ (c : Instr) (s t : State), exec c s = .next t →
    (t.sched.windowOpen = true ↔ ∃ e ∈ t.domains, e.2.window.isOpen = true) ∧
    ((s.sched.windowOpen = true → s.sched.step = none) →
      (t.sched.windowOpen = true → t.sched.step = none) ∧
      (s.sched.windowOpen = true → t.sched.level = s.sched.level ∨ t.sched.level = 1)) ∧
    (s.sched.windowOpen = true → t.sched.windowOpen = false →
      t.sched.step = some t.settings.stepInterval.toNat))

/-- A feeder sample (R66, R67, R71): on each channel the code is converted and clamped to −600..+200 tenths of a dBm,
kept as the last value, counted as low or not, and taken into the average: the first value is the average, and then
the average moves by the difference d divided by 2^k, truncated toward zero, or by 1 toward the value where d is not 0
and that is 0 (R69); samples taken stop at 3, and the rail counter rises at either end of the converter. The level
state leaves UNKNOWN with the third value and then moves by the first row of R73 that applies (R72). An entry to LOS
of a channel that a FEEDER names is a feeder loss (R76): an open FEEDER_LOSS returns to OPEN (R138); else, with no
fault of the domain open and room, one opens, the held members of OPEN splitters below fold into it and the loose
records below link to it (R128). Leaving LOS moves an OPEN one to CLEARING (R77). A change of level of a bound channel
offers FEEDER_LOW (MAJOR) or LEVEL_RECOVERED (INFO) before that, and that of an unbound one nothing (R74, R75; that
LEVEL_RECOVERED goes first is assumption 34). The four channels are taken in the order 0 to 3 (assumption 32). -/
def Obligations.FeederSampleTakesIn : Prop :=
  (∀ (s : State) (c : Fin 4 → BitVec 12), s.halted = false →
    ∃ t, exec (.feederSample (c 0) (c 1) (c 2) (c 3)) s = .next t ∧
      (∀ k : Fin 4, ∀ (p avg : Int) (lows : Nat),
        p = max (-600) (min 200
          ((((c k).toNat * 3 / 16 : Nat) : Int) - 600 + s.settings.calibration k.val)) →
        avg = (match (s.feeder k.val).point.average with
          | none => p
          | some a => a + (if p - a ≠ 0 ∧ (p - a).tdiv (2 ^ s.settings.smoothing.toNat) = 0
              then (if 0 < p - a then 1 else -1)
              else (p - a).tdiv (2 ^ s.settings.smoothing.toNat))) →
        lows = (if p < s.settings.feederLos then min ((s.feeder k.val).point.lows + 1) 3 else 0) →
        t.feeder k.val = ⟨⟨match (s.feeder k.val).point.level with
            | .unknown =>
              if (s.feeder k.val).samples < 2 then .unknown
              else if avg < s.settings.feederLos then .los else if avg < s.settings.feederLow then .low else .normal
            | .normal => if lows = 3 then .los else if avg < s.settings.feederLow then .low else .normal
            | .low =>
              if lows = 3 then .los
              else if s.settings.feederLow + s.settings.feederHyst ≤ avg then .normal else .low
            | .los =>
              if lows < 3 ∧ s.settings.feederLow + s.settings.feederHyst ≤ avg ∧
                s.settings.feederLos + s.settings.feederHyst ≤ avg then .normal
              else if lows < 3 ∧ s.settings.feederLos + s.settings.feederHyst ≤ avg then .low else .los,
            some avg, some p, lows⟩,
          min ((s.feeder k.val).samples + 1) 3, some (c k),
          if c k = 0#12 ∨ c k = 0xFFF#12 then inc16 (s.feeder k.val).rails else (s.feeder k.val).rails⟩) ∧
      t.still = ((((s.feederSample 0 (c 0)).feederSample 1 (c 1)).feederSample 2 (c 2)).feederSample 3 (c 3)).still ∧
      t.taps = s.taps ∧ t.units = s.units ∧ t.settings = s.settings ∧ t.latch = s.latch) ∧
  (∀ (s t : State) (k d : Nat) (code : BitVec 12), t = s.feederSample k code → s.channelDomain k = some d →
    ((s.feeder k).point.level ≠ .los → (t.feeder k).point.level = .los →
      t.terms = (s.feederLoss d).terms ∧ t.faults = (s.feederLoss d).faults ∧
        t.domains = (s.feederLoss d).domains) ∧
    ((s.feeder k).point.level = .los → (t.feeder k).point.level ≠ .los → ∀ x f, s.faultOn .feederLoss d = some x →
      s.fault? x = some f →
      (f.state = .clearing → t.faults = s.faults) ∧
      (f.state = .opened → f.kind = .feederLoss → 0 < f.off ∨ 0 < f.children → t.fault? x = some { f with
        state := .clearing, lastProgress := s.clock.uptime
        clearing := some (s.settings.clearingLimit.toNat * 1000) })) ∧
    (((s.feeder k).point.level = .los ↔ (t.feeder k).point.level = .los) →
      t.faults = s.faults ∧ t.terms = s.terms ∧ t.domains = s.domains)) ∧
  (∀ (s t o : State) (k : Nat) (code : BitVec 12) (avg last : Int), t = s.feederSample k code →
    (t.feeder k).point.average = some avg → (t.feeder k).point.last = some last →
    o = s.offerLevel .major (.feeder k) (s.channelDomain k) (s.feeder k).point.level (t.feeder k).point.level avg
      last →
    (s.channelDomain k = none → t.notices = s.notices ∧ t.faults = s.faults ∧ t.terms = s.terms) ∧
    (((s.feeder k).point.level = .los ↔ (t.feeder k).point.level = .los) → t.notices = o.notices) ∧
    (∀ d, s.channelDomain k = some d →
      ((s.feeder k).point.level ≠ .los → (t.feeder k).point.level = .los →
        t.notices = (o.feederLoss d).notices) ∧
      ((s.feeder k).point.level = .los → (t.feeder k).point.level ≠ .los →
        (s.faultOn .feederLoss d = none ∨ ∃ x f, s.faultOn .feederLoss d = some x ∧ s.fault? x = some f ∧
          (f.state = .clearing ∨ 0 < f.off ∨ 0 < f.children)) → t.notices = o.notices))) ∧
  (∀ (s : State) (d : Nat), s.Keyed → s.Linked → s.FaultsAgree →
    (∀ x f, s.faultOn .feederLoss d = some x → s.fault? x = some f →
      (s.feederLoss d).fault? x = some { f with state := .opened, lastProgress := s.clock.uptime, clearing := none } ∧
      (s.feederLoss d).terms = s.terms ∧ (s.feederLoss d).domains = s.domains) ∧
    (s.faultOn .feederLoss d = none → s.holdsFault d = false → s.faults.length < 32 →
      (s.domain? d).map (fun o => o.fields.level) = some .feeder →
      ∃ x g, s.fault? x = none ∧ (s.feederLoss d).fault? x = some g ∧ g.kind = .feederLoss ∧ g.subject = d ∧
        g.announced = true ∧ (s.feederLoss d).windowOf d = .decided x ∧
        (∀ c, c ∈ s.descendants d → (s.windowOf c).isOpen = true → (s.feederLoss d).windowOf c = .quiet) ∧
        (∀ c y r, c ∈ s.descendants d → s.windowOf c = .decided y → s.fault? y = some r → r.parent = none →
          (s.feederLoss d).fault? y = some { r with parent := some x, held := false, reminder := none }) ∧
        (∀ a e, s.term? a = some e → (s.feederLoss d).term? a = some (
          if e.held = true ∧ e.prov.domain ∈ s.descendants d ∧ (s.windowOf e.prov.domain).isOpen = true then { e with
            state := if e.state = .heldDark then .offDark else .offPower
            lit := false
            prior := none
            lastCause := some (if e.state = .heldDark then .dark else .power)
            link := some x }
          else e))))

/-- A tap reading (R68, R69, R71 to R73): −32768 is no reading and changes nothing; another is clamped to −600..+200,
kept as the last value, counted as low or not, and taken into the average by the four steps of R69 (the division
truncates toward zero); the level state of the slot moves by the first row of R73 that applies, the first reading
ending UNKNOWN. No other slot changes. A change of level of a bound slot offers TAP_LOW (MINOR) or LEVEL_RECOVERED
(INFO), and that of an unbound one nothing (R74, R75). -/
def Obligations.TapReadingTakesIn : Prop :=
  ∀ (s : State) (f : Nat) (tp : Tap) (r : Word16),
    (r = 0x8000#16 → s.tapReading f tp r = s) ∧
    (r ≠ 0x8000#16 → ∀ (p avg : Int) (lows : Nat),
      p = max (-600) (min 200 r.toInt) →
      avg = (match (s.tapPoint f tp).average with
        | none => p
        | some a => a + (if p - a ≠ 0 ∧ (p - a).tdiv (2 ^ s.settings.smoothing.toNat) = 0
            then (if 0 < p - a then 1 else -1)
            else (p - a).tdiv (2 ^ s.settings.smoothing.toNat))) →
      lows = (if p < s.settings.tapLos then min ((s.tapPoint f tp).lows + 1) 2 else 0) →
      (s.tapReading f tp r).tapPoint f tp =
        ⟨match (s.tapPoint f tp).level with
          | .unknown =>
            if avg < s.settings.tapLos then .los else if avg < s.settings.tapLow then .low else .normal
          | .normal => if lows = 2 then .los else if avg < s.settings.tapLow then .low else .normal
          | .low =>
            if lows = 2 then .los else if s.settings.tapLow + s.settings.tapHyst ≤ avg then .normal else .low
          | .los =>
            if lows < 2 ∧ s.settings.tapLow + s.settings.tapHyst ≤ avg ∧
              s.settings.tapLos + s.settings.tapHyst ≤ avg then .normal
            else if lows < 2 ∧ s.settings.tapLos + s.settings.tapHyst ≤ avg then .low else .los,
          some avg, some p, lows⟩ ∧
      (s.tapReading f tp r).notices = (s.offerLevel .minor (.tap f tp) (s.tapLink f tp) (s.tapPoint f tp).level
        ((s.tapReading f tp r).tapPoint f tp).level avg p).notices) ∧
    (∀ g tq, g * 2 + (if tq = .b then 1 else 0) ≠ f * 2 + (if tp = .b then 1 else 0) →
      (s.tapReading f tp r).tapPoint g tq = s.tapPoint g tq) ∧
    (s.tapReading f tp r).terms = s.terms ∧ (s.tapReading f tp r).units = s.units ∧
    (s.tapReading f tp r).faults = s.faults ∧ (s.tapReading f tp r).settings = s.settings

/-- A GASPED entry's gasp hold expires: it is LIT, with its count up and GASP clear, no window moves (R90), and WATCH is
offered when it is set (R105). A RESTORING entry's hold-down expires: it is LIT and unfolded, with REPORTED clear
(R91). No other entry changes. An unfolded one offers TERMINAL_RESTORED, with the time of its first dark (R104,
assumption 39), when it was REPORTED, notifies and is not MASKED. A folded one leaves its record, whose off count falls
by one (R135) and which makes progress with a new clearing timer (R137); when neither off terminals nor children are
left, the record is removed and its domain QUIET (R139), a top record offers FAULT_CLOSED with reason CLEARED, and a
linked one takes a child from its parent, which makes progress or goes in turn. A due expiry comes when it is told
(assumption 2). -/
def Obligations.TerminalTimersExpire : Prop :=
  ∀ (s : State) (a : BitVec 10) (e : Terminal), s.halted = false → s.term? a.toNat = some e →
    (e.state = .gasped → e.gaspHold = some 0 →
      ∃ t, exec (.gaspHoldExpiry a) s = .next t ∧
        t.term? a.toNat = some { e with
          state := .lit, lit := true, gasp := false, reported := false, prior := none, gaspHold := none
          gaspRecovered := min (e.gaspRecovered + 1) 255, lastChange := some s.clock.uptime } ∧
        (∀ b, b ≠ a.toNat → t.term? b = s.term? b) ∧ t.domains = s.domains ∧ t.faults = s.faults ∧
        t.notices.still = (if e.prov.watch = true ∧ e.prov.masked = false then
          s.offer .info (.watch a.toNat e.prov.label (.gaspRecovered (min (e.gaspRecovered + 1) 255)) .lit
            s.clock.uptime) else s).notices.still) ∧
    (e.state = .restoring → e.holdDown = some 0 →
      ∃ t, exec (.holdDownExpiry a) s = .next t ∧
        t.term? a.toNat = some { e with
          state := .lit, lit := true, gasp := false, reported := false, prior := none, link := none
          holdDown := none, offSince := none, lastChange := some s.clock.uptime } ∧
        (∀ b, b ≠ a.toNat → t.term? b = s.term? b) ∧
        (e.link = none → t.faults = s.faults ∧ t.domains = s.domains ∧
          t.notices.still = (if e.reported = true ∧ e.prov.notify = true ∧ e.prov.masked = false then
            s.offer .info (.terminalRestored a.toNat e.prov.label e.lastCause e.offSince .holdDown e.flaps)
            else s).notices.still) ∧
        (∀ x f, e.link = some x → s.fault? x = some f → f.kind ≠ .unitLost → Table.distinct s.faults →
          (1 < f.off ∨ 0 < f.children → t.fault? x = some (s.progressed { f with off := f.off - 1 }) ∧
            (∀ y, y ≠ x → t.fault? y = s.fault? y) ∧ t.domains = s.domains ∧
            t.notices.still = s.notices.still) ∧
          (f.off ≤ 1 → f.children = 0 → t.fault? x = none ∧
            (f.kind.onDomain = true → s.windowOf f.subject = .decided x → t.windowOf f.subject = .quiet) ∧
            (f.parent = none → (∀ y, y ≠ x → t.fault? y = s.fault? y) ∧
              (f.held = false → t.notices.still = (s.offer .info (.faultClosed x f.kind
                (s.faultSubject f.kind f.subject) .cleared false f.openedAt f.affected 0 0 f.acked
                f.reminders)).notices.still)) ∧
            (∀ p q, f.parent = some p → p ≠ x → s.fault? p = some q → q.kind ≠ .unitLost →
              (0 < q.off ∨ 1 < q.children →
                t.fault? p = some (s.progressed { q with children := q.children - 1 }) ∧
                (∀ y, y ≠ x → y ≠ p → t.fault? y = s.fault? y) ∧
                (f.held = false → t.notices.still = s.notices.still)) ∧
              (q.off = 0 → q.children ≤ 1 → t.fault? p = none ∧
                (q.parent = none → f.held = false → q.held = false →
                  t.notices.still = (s.offer .info (.faultClosed p q.kind (s.faultSubject q.kind q.subject) .cleared
                    false q.openedAt q.affected 0 0 q.acked q.reminders)).notices.still))))))

/-- The aging tick (R12, R13; a due tick comes when it is told, assumption 2): an entry heard since the last tick
is marked not heard and keeps its age, one not heard gains an age, one not heard at age 3 is removed, and the
others keep their order (R9); a full period starts; nothing else changes. -/
def Obligations.AgingTickAges : Prop :=
  ∀ s : State, s.halted = false → s.tally.aging = 0 → Table.distinct s.learned →
    ∃ t, exec .agingTick s = .next t ∧
      (∀ a e, Table.get? s.learned a = some e →
        Table.get? t.learned a = if e.heard then some { e with heard := false }
          else if e.age < 3 then some { e with age := e.age + 1 } else none) ∧
      (∀ a, Table.get? s.learned a = none → Table.get? t.learned a = none) ∧
      (t.learned.map Prod.fst).Sublist (s.learned.map Prod.fst) ∧
      { t.still with learned := [] } =
        { s.still with learned := [], tally := { s.tally with aging := s.settings.aging.toNat * 60000 } }
end

