-- ==== Sys2Proof/Laws/State.lean ====
section
/-! SUPPORT. One lemma per field for each named update of the state: the updated block, and every other field kept. -/

namespace Sys2Proof.Machine

variable (s : State) (k : Nat)

@[simp] theorem State.modLink_pending (f : HostLink → HostLink) : (s.modLink f).pending = s.pending := rfl
@[simp] theorem State.modLink_clock (f : HostLink → HostLink) : (s.modLink f).clock = s.clock := rfl
@[simp] theorem State.modLink_link (f : HostLink → HostLink) : (s.modLink f).link = f s.link := rfl
@[simp] theorem State.modLink_riser (f : HostLink → HostLink) : (s.modLink f).riser = s.riser := rfl
@[simp] theorem State.modLink_sched (f : HostLink → HostLink) : (s.modLink f).sched = s.sched := rfl
@[simp] theorem State.modLink_units (f : HostLink → HostLink) : (s.modLink f).units = s.units := rfl
@[simp] theorem State.modLink_feeders (f : HostLink → HostLink) : (s.modLink f).feeders = s.feeders := rfl
@[simp] theorem State.modLink_taps (f : HostLink → HostLink) : (s.modLink f).taps = s.taps := rfl
@[simp] theorem State.modLink_terms (f : HostLink → HostLink) : (s.modLink f).terms = s.terms := rfl
@[simp] theorem State.modLink_learned (f : HostLink → HostLink) : (s.modLink f).learned = s.learned := rfl
@[simp] theorem State.modLink_tally (f : HostLink → HostLink) : (s.modLink f).tally = s.tally := rfl
@[simp] theorem State.modLink_domains (f : HostLink → HostLink) : (s.modLink f).domains = s.domains := rfl
@[simp] theorem State.modLink_faults (f : HostLink → HostLink) : (s.modLink f).faults = s.faults := rfl
@[simp] theorem State.modLink_faultCtl (f : HostLink → HostLink) : (s.modLink f).faultCtl = s.faultCtl := rfl
@[simp] theorem State.modLink_latch (f : HostLink → HostLink) : (s.modLink f).latch = s.latch := rfl
@[simp] theorem State.modLink_notices (f : HostLink → HostLink) : (s.modLink f).notices = s.notices := rfl
@[simp] theorem State.modLink_floorMask (f : HostLink → HostLink) : (s.modLink f).floorMask = s.floorMask := rfl
@[simp] theorem State.modLink_enables (f : HostLink → HostLink) : (s.modLink f).enables = s.enables := rfl
@[simp] theorem State.modLink_settings (f : HostLink → HostLink) : (s.modLink f).settings = s.settings := rfl
@[simp] theorem State.modLink_store (f : HostLink → HostLink) : (s.modLink f).store = s.store := rfl
@[simp] theorem State.modLink_halted (f : HostLink → HostLink) : (s.modLink f).halted = s.halted := rfl
@[simp] theorem State.modLink_fmus (f : HostLink → HostLink) : (s.modLink f).fmus = s.fmus := rfl

@[simp] theorem State.modRiser_pending (f : Riser → Riser) : (s.modRiser f).pending = s.pending := rfl
@[simp] theorem State.modRiser_clock (f : Riser → Riser) : (s.modRiser f).clock = s.clock := rfl
@[simp] theorem State.modRiser_link (f : Riser → Riser) : (s.modRiser f).link = s.link := rfl
@[simp] theorem State.modRiser_riser (f : Riser → Riser) : (s.modRiser f).riser = f s.riser := rfl
@[simp] theorem State.modRiser_sched (f : Riser → Riser) : (s.modRiser f).sched = s.sched := rfl
@[simp] theorem State.modRiser_units (f : Riser → Riser) : (s.modRiser f).units = s.units := rfl
@[simp] theorem State.modRiser_feeders (f : Riser → Riser) : (s.modRiser f).feeders = s.feeders := rfl
@[simp] theorem State.modRiser_taps (f : Riser → Riser) : (s.modRiser f).taps = s.taps := rfl
@[simp] theorem State.modRiser_terms (f : Riser → Riser) : (s.modRiser f).terms = s.terms := rfl
@[simp] theorem State.modRiser_learned (f : Riser → Riser) : (s.modRiser f).learned = s.learned := rfl
@[simp] theorem State.modRiser_tally (f : Riser → Riser) : (s.modRiser f).tally = s.tally := rfl
@[simp] theorem State.modRiser_domains (f : Riser → Riser) : (s.modRiser f).domains = s.domains := rfl
@[simp] theorem State.modRiser_faults (f : Riser → Riser) : (s.modRiser f).faults = s.faults := rfl
@[simp] theorem State.modRiser_faultCtl (f : Riser → Riser) : (s.modRiser f).faultCtl = s.faultCtl := rfl
@[simp] theorem State.modRiser_latch (f : Riser → Riser) : (s.modRiser f).latch = s.latch := rfl
@[simp] theorem State.modRiser_notices (f : Riser → Riser) : (s.modRiser f).notices = s.notices := rfl
@[simp] theorem State.modRiser_floorMask (f : Riser → Riser) : (s.modRiser f).floorMask = s.floorMask := rfl
@[simp] theorem State.modRiser_enables (f : Riser → Riser) : (s.modRiser f).enables = s.enables := rfl
@[simp] theorem State.modRiser_settings (f : Riser → Riser) : (s.modRiser f).settings = s.settings := rfl
@[simp] theorem State.modRiser_store (f : Riser → Riser) : (s.modRiser f).store = s.store := rfl
@[simp] theorem State.modRiser_halted (f : Riser → Riser) : (s.modRiser f).halted = s.halted := rfl
@[simp] theorem State.modRiser_fmus (f : Riser → Riser) : (s.modRiser f).fmus = s.fmus := rfl

@[simp] theorem State.modSched_pending (f : Sched → Sched) : (s.modSched f).pending = s.pending := rfl
@[simp] theorem State.modSched_clock (f : Sched → Sched) : (s.modSched f).clock = s.clock := rfl
@[simp] theorem State.modSched_link (f : Sched → Sched) : (s.modSched f).link = s.link := rfl
@[simp] theorem State.modSched_riser (f : Sched → Sched) : (s.modSched f).riser = s.riser := rfl
@[simp] theorem State.modSched_sched (f : Sched → Sched) : (s.modSched f).sched = f s.sched := rfl
@[simp] theorem State.modSched_units (f : Sched → Sched) : (s.modSched f).units = s.units := rfl
@[simp] theorem State.modSched_feeders (f : Sched → Sched) : (s.modSched f).feeders = s.feeders := rfl
@[simp] theorem State.modSched_taps (f : Sched → Sched) : (s.modSched f).taps = s.taps := rfl
@[simp] theorem State.modSched_terms (f : Sched → Sched) : (s.modSched f).terms = s.terms := rfl
@[simp] theorem State.modSched_learned (f : Sched → Sched) : (s.modSched f).learned = s.learned := rfl
@[simp] theorem State.modSched_tally (f : Sched → Sched) : (s.modSched f).tally = s.tally := rfl
@[simp] theorem State.modSched_domains (f : Sched → Sched) : (s.modSched f).domains = s.domains := rfl
@[simp] theorem State.modSched_faults (f : Sched → Sched) : (s.modSched f).faults = s.faults := rfl
@[simp] theorem State.modSched_faultCtl (f : Sched → Sched) : (s.modSched f).faultCtl = s.faultCtl := rfl
@[simp] theorem State.modSched_latch (f : Sched → Sched) : (s.modSched f).latch = s.latch := rfl
@[simp] theorem State.modSched_notices (f : Sched → Sched) : (s.modSched f).notices = s.notices := rfl
@[simp] theorem State.modSched_floorMask (f : Sched → Sched) : (s.modSched f).floorMask = s.floorMask := rfl
@[simp] theorem State.modSched_enables (f : Sched → Sched) : (s.modSched f).enables = s.enables := rfl
@[simp] theorem State.modSched_settings (f : Sched → Sched) : (s.modSched f).settings = s.settings := rfl
@[simp] theorem State.modSched_store (f : Sched → Sched) : (s.modSched f).store = s.store := rfl
@[simp] theorem State.modSched_halted (f : Sched → Sched) : (s.modSched f).halted = s.halted := rfl
@[simp] theorem State.modSched_fmus (f : Sched → Sched) : (s.modSched f).fmus = s.fmus := rfl

@[simp] theorem State.modUnit_pending (f : FloorUnit → FloorUnit) : (s.modUnit k f).pending = s.pending := rfl
@[simp] theorem State.modUnit_clock (f : FloorUnit → FloorUnit) : (s.modUnit k f).clock = s.clock := rfl
@[simp] theorem State.modUnit_link (f : FloorUnit → FloorUnit) : (s.modUnit k f).link = s.link := rfl
@[simp] theorem State.modUnit_riser (f : FloorUnit → FloorUnit) : (s.modUnit k f).riser = s.riser := rfl
@[simp] theorem State.modUnit_sched (f : FloorUnit → FloorUnit) : (s.modUnit k f).sched = s.sched := rfl
@[simp] theorem State.modUnit_units (f : FloorUnit → FloorUnit) : (s.modUnit k f).units = Table.modify s.units k f := rfl
@[simp] theorem State.modUnit_feeders (f : FloorUnit → FloorUnit) : (s.modUnit k f).feeders = s.feeders := rfl
@[simp] theorem State.modUnit_taps (f : FloorUnit → FloorUnit) : (s.modUnit k f).taps = s.taps := rfl
@[simp] theorem State.modUnit_terms (f : FloorUnit → FloorUnit) : (s.modUnit k f).terms = s.terms := rfl
@[simp] theorem State.modUnit_learned (f : FloorUnit → FloorUnit) : (s.modUnit k f).learned = s.learned := rfl
@[simp] theorem State.modUnit_tally (f : FloorUnit → FloorUnit) : (s.modUnit k f).tally = s.tally := rfl
@[simp] theorem State.modUnit_domains (f : FloorUnit → FloorUnit) : (s.modUnit k f).domains = s.domains := rfl
@[simp] theorem State.modUnit_faults (f : FloorUnit → FloorUnit) : (s.modUnit k f).faults = s.faults := rfl
@[simp] theorem State.modUnit_faultCtl (f : FloorUnit → FloorUnit) : (s.modUnit k f).faultCtl = s.faultCtl := rfl
@[simp] theorem State.modUnit_latch (f : FloorUnit → FloorUnit) : (s.modUnit k f).latch = s.latch := rfl
@[simp] theorem State.modUnit_notices (f : FloorUnit → FloorUnit) : (s.modUnit k f).notices = s.notices := rfl
@[simp] theorem State.modUnit_floorMask (f : FloorUnit → FloorUnit) : (s.modUnit k f).floorMask = s.floorMask := rfl
@[simp] theorem State.modUnit_enables (f : FloorUnit → FloorUnit) : (s.modUnit k f).enables = s.enables := rfl
@[simp] theorem State.modUnit_settings (f : FloorUnit → FloorUnit) : (s.modUnit k f).settings = s.settings := rfl
@[simp] theorem State.modUnit_store (f : FloorUnit → FloorUnit) : (s.modUnit k f).store = s.store := rfl
@[simp] theorem State.modUnit_halted (f : FloorUnit → FloorUnit) : (s.modUnit k f).halted = s.halted := rfl
@[simp] theorem State.modUnit_fmus (f : FloorUnit → FloorUnit) : (s.modUnit k f).fmus = s.fmus := rfl

@[simp] theorem State.modTerm_pending (f : Terminal → Terminal) : (s.modTerm k f).pending = s.pending := rfl
@[simp] theorem State.modTerm_clock (f : Terminal → Terminal) : (s.modTerm k f).clock = s.clock := rfl
@[simp] theorem State.modTerm_link (f : Terminal → Terminal) : (s.modTerm k f).link = s.link := rfl
@[simp] theorem State.modTerm_riser (f : Terminal → Terminal) : (s.modTerm k f).riser = s.riser := rfl
@[simp] theorem State.modTerm_sched (f : Terminal → Terminal) : (s.modTerm k f).sched = s.sched := rfl
@[simp] theorem State.modTerm_units (f : Terminal → Terminal) : (s.modTerm k f).units = s.units := rfl
@[simp] theorem State.modTerm_feeders (f : Terminal → Terminal) : (s.modTerm k f).feeders = s.feeders := rfl
@[simp] theorem State.modTerm_taps (f : Terminal → Terminal) : (s.modTerm k f).taps = s.taps := rfl
@[simp] theorem State.modTerm_terms (f : Terminal → Terminal) : (s.modTerm k f).terms = Table.modify s.terms k f := rfl
@[simp] theorem State.modTerm_learned (f : Terminal → Terminal) : (s.modTerm k f).learned = s.learned := rfl
@[simp] theorem State.modTerm_tally (f : Terminal → Terminal) : (s.modTerm k f).tally = s.tally := rfl
@[simp] theorem State.modTerm_domains (f : Terminal → Terminal) : (s.modTerm k f).domains = s.domains := rfl
@[simp] theorem State.modTerm_faults (f : Terminal → Terminal) : (s.modTerm k f).faults = s.faults := rfl
@[simp] theorem State.modTerm_faultCtl (f : Terminal → Terminal) : (s.modTerm k f).faultCtl = s.faultCtl := rfl
@[simp] theorem State.modTerm_latch (f : Terminal → Terminal) : (s.modTerm k f).latch = s.latch := rfl
@[simp] theorem State.modTerm_notices (f : Terminal → Terminal) : (s.modTerm k f).notices = s.notices := rfl
@[simp] theorem State.modTerm_floorMask (f : Terminal → Terminal) : (s.modTerm k f).floorMask = s.floorMask := rfl
@[simp] theorem State.modTerm_enables (f : Terminal → Terminal) : (s.modTerm k f).enables = s.enables := rfl
@[simp] theorem State.modTerm_settings (f : Terminal → Terminal) : (s.modTerm k f).settings = s.settings := rfl
@[simp] theorem State.modTerm_store (f : Terminal → Terminal) : (s.modTerm k f).store = s.store := rfl
@[simp] theorem State.modTerm_halted (f : Terminal → Terminal) : (s.modTerm k f).halted = s.halted := rfl
@[simp] theorem State.modTerm_fmus (f : Terminal → Terminal) : (s.modTerm k f).fmus = s.fmus := rfl

@[simp] theorem State.modLearned_pending (f : Table Learned → Table Learned) : (s.modLearned f).pending = s.pending := rfl
@[simp] theorem State.modLearned_clock (f : Table Learned → Table Learned) : (s.modLearned f).clock = s.clock := rfl
@[simp] theorem State.modLearned_link (f : Table Learned → Table Learned) : (s.modLearned f).link = s.link := rfl
@[simp] theorem State.modLearned_riser (f : Table Learned → Table Learned) : (s.modLearned f).riser = s.riser := rfl
@[simp] theorem State.modLearned_sched (f : Table Learned → Table Learned) : (s.modLearned f).sched = s.sched := rfl
@[simp] theorem State.modLearned_units (f : Table Learned → Table Learned) : (s.modLearned f).units = s.units := rfl
@[simp] theorem State.modLearned_feeders (f : Table Learned → Table Learned) : (s.modLearned f).feeders = s.feeders := rfl
@[simp] theorem State.modLearned_taps (f : Table Learned → Table Learned) : (s.modLearned f).taps = s.taps := rfl
@[simp] theorem State.modLearned_terms (f : Table Learned → Table Learned) : (s.modLearned f).terms = s.terms := rfl
@[simp] theorem State.modLearned_learned (f : Table Learned → Table Learned) : (s.modLearned f).learned = f s.learned := rfl
@[simp] theorem State.modLearned_tally (f : Table Learned → Table Learned) : (s.modLearned f).tally = s.tally := rfl
@[simp] theorem State.modLearned_domains (f : Table Learned → Table Learned) : (s.modLearned f).domains = s.domains := rfl
@[simp] theorem State.modLearned_faults (f : Table Learned → Table Learned) : (s.modLearned f).faults = s.faults := rfl
@[simp] theorem State.modLearned_faultCtl (f : Table Learned → Table Learned) : (s.modLearned f).faultCtl = s.faultCtl := rfl
@[simp] theorem State.modLearned_latch (f : Table Learned → Table Learned) : (s.modLearned f).latch = s.latch := rfl
@[simp] theorem State.modLearned_notices (f : Table Learned → Table Learned) : (s.modLearned f).notices = s.notices := rfl
@[simp] theorem State.modLearned_floorMask (f : Table Learned → Table Learned) : (s.modLearned f).floorMask = s.floorMask := rfl
@[simp] theorem State.modLearned_enables (f : Table Learned → Table Learned) : (s.modLearned f).enables = s.enables := rfl
@[simp] theorem State.modLearned_settings (f : Table Learned → Table Learned) : (s.modLearned f).settings = s.settings := rfl
@[simp] theorem State.modLearned_store (f : Table Learned → Table Learned) : (s.modLearned f).store = s.store := rfl
@[simp] theorem State.modLearned_halted (f : Table Learned → Table Learned) : (s.modLearned f).halted = s.halted := rfl
@[simp] theorem State.modLearned_fmus (f : Table Learned → Table Learned) : (s.modLearned f).fmus = s.fmus := rfl

@[simp] theorem State.modTally_pending (f : Tally → Tally) : (s.modTally f).pending = s.pending := rfl
@[simp] theorem State.modTally_clock (f : Tally → Tally) : (s.modTally f).clock = s.clock := rfl
@[simp] theorem State.modTally_link (f : Tally → Tally) : (s.modTally f).link = s.link := rfl
@[simp] theorem State.modTally_riser (f : Tally → Tally) : (s.modTally f).riser = s.riser := rfl
@[simp] theorem State.modTally_sched (f : Tally → Tally) : (s.modTally f).sched = s.sched := rfl
@[simp] theorem State.modTally_units (f : Tally → Tally) : (s.modTally f).units = s.units := rfl
@[simp] theorem State.modTally_feeders (f : Tally → Tally) : (s.modTally f).feeders = s.feeders := rfl
@[simp] theorem State.modTally_taps (f : Tally → Tally) : (s.modTally f).taps = s.taps := rfl
@[simp] theorem State.modTally_terms (f : Tally → Tally) : (s.modTally f).terms = s.terms := rfl
@[simp] theorem State.modTally_learned (f : Tally → Tally) : (s.modTally f).learned = s.learned := rfl
@[simp] theorem State.modTally_tally (f : Tally → Tally) : (s.modTally f).tally = f s.tally := rfl
@[simp] theorem State.modTally_domains (f : Tally → Tally) : (s.modTally f).domains = s.domains := rfl
@[simp] theorem State.modTally_faults (f : Tally → Tally) : (s.modTally f).faults = s.faults := rfl
@[simp] theorem State.modTally_faultCtl (f : Tally → Tally) : (s.modTally f).faultCtl = s.faultCtl := rfl
@[simp] theorem State.modTally_latch (f : Tally → Tally) : (s.modTally f).latch = s.latch := rfl
@[simp] theorem State.modTally_notices (f : Tally → Tally) : (s.modTally f).notices = s.notices := rfl
@[simp] theorem State.modTally_floorMask (f : Tally → Tally) : (s.modTally f).floorMask = s.floorMask := rfl
@[simp] theorem State.modTally_enables (f : Tally → Tally) : (s.modTally f).enables = s.enables := rfl
@[simp] theorem State.modTally_settings (f : Tally → Tally) : (s.modTally f).settings = s.settings := rfl
@[simp] theorem State.modTally_store (f : Tally → Tally) : (s.modTally f).store = s.store := rfl
@[simp] theorem State.modTally_halted (f : Tally → Tally) : (s.modTally f).halted = s.halted := rfl
@[simp] theorem State.modTally_fmus (f : Tally → Tally) : (s.modTally f).fmus = s.fmus := rfl

@[simp] theorem State.modDomain_pending (f : Domain → Domain) : (s.modDomain k f).pending = s.pending := rfl
@[simp] theorem State.modDomain_clock (f : Domain → Domain) : (s.modDomain k f).clock = s.clock := rfl
@[simp] theorem State.modDomain_link (f : Domain → Domain) : (s.modDomain k f).link = s.link := rfl
@[simp] theorem State.modDomain_riser (f : Domain → Domain) : (s.modDomain k f).riser = s.riser := rfl
@[simp] theorem State.modDomain_sched (f : Domain → Domain) : (s.modDomain k f).sched = s.sched := rfl
@[simp] theorem State.modDomain_units (f : Domain → Domain) : (s.modDomain k f).units = s.units := rfl
@[simp] theorem State.modDomain_feeders (f : Domain → Domain) : (s.modDomain k f).feeders = s.feeders := rfl
@[simp] theorem State.modDomain_taps (f : Domain → Domain) : (s.modDomain k f).taps = s.taps := rfl
@[simp] theorem State.modDomain_terms (f : Domain → Domain) : (s.modDomain k f).terms = s.terms := rfl
@[simp] theorem State.modDomain_learned (f : Domain → Domain) : (s.modDomain k f).learned = s.learned := rfl
@[simp] theorem State.modDomain_tally (f : Domain → Domain) : (s.modDomain k f).tally = s.tally := rfl
@[simp] theorem State.modDomain_domains (f : Domain → Domain) : (s.modDomain k f).domains = Table.modify s.domains k f := rfl
@[simp] theorem State.modDomain_faults (f : Domain → Domain) : (s.modDomain k f).faults = s.faults := rfl
@[simp] theorem State.modDomain_faultCtl (f : Domain → Domain) : (s.modDomain k f).faultCtl = s.faultCtl := rfl
@[simp] theorem State.modDomain_latch (f : Domain → Domain) : (s.modDomain k f).latch = s.latch := rfl
@[simp] theorem State.modDomain_notices (f : Domain → Domain) : (s.modDomain k f).notices = s.notices := rfl
@[simp] theorem State.modDomain_floorMask (f : Domain → Domain) : (s.modDomain k f).floorMask = s.floorMask := rfl
@[simp] theorem State.modDomain_enables (f : Domain → Domain) : (s.modDomain k f).enables = s.enables := rfl
@[simp] theorem State.modDomain_settings (f : Domain → Domain) : (s.modDomain k f).settings = s.settings := rfl
@[simp] theorem State.modDomain_store (f : Domain → Domain) : (s.modDomain k f).store = s.store := rfl
@[simp] theorem State.modDomain_halted (f : Domain → Domain) : (s.modDomain k f).halted = s.halted := rfl
@[simp] theorem State.modDomain_fmus (f : Domain → Domain) : (s.modDomain k f).fmus = s.fmus := rfl

@[simp] theorem State.modFault_pending (f : FaultRecord → FaultRecord) : (s.modFault k f).pending = s.pending := rfl
@[simp] theorem State.modFault_clock (f : FaultRecord → FaultRecord) : (s.modFault k f).clock = s.clock := rfl
@[simp] theorem State.modFault_link (f : FaultRecord → FaultRecord) : (s.modFault k f).link = s.link := rfl
@[simp] theorem State.modFault_riser (f : FaultRecord → FaultRecord) : (s.modFault k f).riser = s.riser := rfl
@[simp] theorem State.modFault_sched (f : FaultRecord → FaultRecord) : (s.modFault k f).sched = s.sched := rfl
@[simp] theorem State.modFault_units (f : FaultRecord → FaultRecord) : (s.modFault k f).units = s.units := rfl
@[simp] theorem State.modFault_feeders (f : FaultRecord → FaultRecord) : (s.modFault k f).feeders = s.feeders := rfl
@[simp] theorem State.modFault_taps (f : FaultRecord → FaultRecord) : (s.modFault k f).taps = s.taps := rfl
@[simp] theorem State.modFault_terms (f : FaultRecord → FaultRecord) : (s.modFault k f).terms = s.terms := rfl
@[simp] theorem State.modFault_learned (f : FaultRecord → FaultRecord) : (s.modFault k f).learned = s.learned := rfl
@[simp] theorem State.modFault_tally (f : FaultRecord → FaultRecord) : (s.modFault k f).tally = s.tally := rfl
@[simp] theorem State.modFault_domains (f : FaultRecord → FaultRecord) : (s.modFault k f).domains = s.domains := rfl
@[simp] theorem State.modFault_faults (f : FaultRecord → FaultRecord) : (s.modFault k f).faults = Table.modify s.faults k f := rfl
@[simp] theorem State.modFault_faultCtl (f : FaultRecord → FaultRecord) : (s.modFault k f).faultCtl = s.faultCtl := rfl
@[simp] theorem State.modFault_latch (f : FaultRecord → FaultRecord) : (s.modFault k f).latch = s.latch := rfl
@[simp] theorem State.modFault_notices (f : FaultRecord → FaultRecord) : (s.modFault k f).notices = s.notices := rfl
@[simp] theorem State.modFault_floorMask (f : FaultRecord → FaultRecord) : (s.modFault k f).floorMask = s.floorMask := rfl
@[simp] theorem State.modFault_enables (f : FaultRecord → FaultRecord) : (s.modFault k f).enables = s.enables := rfl
@[simp] theorem State.modFault_settings (f : FaultRecord → FaultRecord) : (s.modFault k f).settings = s.settings := rfl
@[simp] theorem State.modFault_store (f : FaultRecord → FaultRecord) : (s.modFault k f).store = s.store := rfl
@[simp] theorem State.modFault_halted (f : FaultRecord → FaultRecord) : (s.modFault k f).halted = s.halted := rfl
@[simp] theorem State.modFault_fmus (f : FaultRecord → FaultRecord) : (s.modFault k f).fmus = s.fmus := rfl

@[simp] theorem State.modFaultCtl_pending (f : FaultControl → FaultControl) : (s.modFaultCtl f).pending = s.pending := rfl
@[simp] theorem State.modFaultCtl_clock (f : FaultControl → FaultControl) : (s.modFaultCtl f).clock = s.clock := rfl
@[simp] theorem State.modFaultCtl_link (f : FaultControl → FaultControl) : (s.modFaultCtl f).link = s.link := rfl
@[simp] theorem State.modFaultCtl_riser (f : FaultControl → FaultControl) : (s.modFaultCtl f).riser = s.riser := rfl
@[simp] theorem State.modFaultCtl_sched (f : FaultControl → FaultControl) : (s.modFaultCtl f).sched = s.sched := rfl
@[simp] theorem State.modFaultCtl_units (f : FaultControl → FaultControl) : (s.modFaultCtl f).units = s.units := rfl
@[simp] theorem State.modFaultCtl_feeders (f : FaultControl → FaultControl) : (s.modFaultCtl f).feeders = s.feeders := rfl
@[simp] theorem State.modFaultCtl_taps (f : FaultControl → FaultControl) : (s.modFaultCtl f).taps = s.taps := rfl
@[simp] theorem State.modFaultCtl_terms (f : FaultControl → FaultControl) : (s.modFaultCtl f).terms = s.terms := rfl
@[simp] theorem State.modFaultCtl_learned (f : FaultControl → FaultControl) : (s.modFaultCtl f).learned = s.learned := rfl
@[simp] theorem State.modFaultCtl_tally (f : FaultControl → FaultControl) : (s.modFaultCtl f).tally = s.tally := rfl
@[simp] theorem State.modFaultCtl_domains (f : FaultControl → FaultControl) : (s.modFaultCtl f).domains = s.domains := rfl
@[simp] theorem State.modFaultCtl_faults (f : FaultControl → FaultControl) : (s.modFaultCtl f).faults = s.faults := rfl
@[simp] theorem State.modFaultCtl_faultCtl (f : FaultControl → FaultControl) : (s.modFaultCtl f).faultCtl = f s.faultCtl := rfl
@[simp] theorem State.modFaultCtl_latch (f : FaultControl → FaultControl) : (s.modFaultCtl f).latch = s.latch := rfl
@[simp] theorem State.modFaultCtl_notices (f : FaultControl → FaultControl) : (s.modFaultCtl f).notices = s.notices := rfl
@[simp] theorem State.modFaultCtl_floorMask (f : FaultControl → FaultControl) : (s.modFaultCtl f).floorMask = s.floorMask := rfl
@[simp] theorem State.modFaultCtl_enables (f : FaultControl → FaultControl) : (s.modFaultCtl f).enables = s.enables := rfl
@[simp] theorem State.modFaultCtl_settings (f : FaultControl → FaultControl) : (s.modFaultCtl f).settings = s.settings := rfl
@[simp] theorem State.modFaultCtl_store (f : FaultControl → FaultControl) : (s.modFaultCtl f).store = s.store := rfl
@[simp] theorem State.modFaultCtl_halted (f : FaultControl → FaultControl) : (s.modFaultCtl f).halted = s.halted := rfl
@[simp] theorem State.modFaultCtl_fmus (f : FaultControl → FaultControl) : (s.modFaultCtl f).fmus = s.fmus := rfl

@[simp] theorem State.modNotices_pending (f : NoticeQueues → NoticeQueues) : (s.modNotices f).pending = s.pending := rfl
@[simp] theorem State.modNotices_clock (f : NoticeQueues → NoticeQueues) : (s.modNotices f).clock = s.clock := rfl
@[simp] theorem State.modNotices_link (f : NoticeQueues → NoticeQueues) : (s.modNotices f).link = s.link := rfl
@[simp] theorem State.modNotices_riser (f : NoticeQueues → NoticeQueues) : (s.modNotices f).riser = s.riser := rfl
@[simp] theorem State.modNotices_sched (f : NoticeQueues → NoticeQueues) : (s.modNotices f).sched = s.sched := rfl
@[simp] theorem State.modNotices_units (f : NoticeQueues → NoticeQueues) : (s.modNotices f).units = s.units := rfl
@[simp] theorem State.modNotices_feeders (f : NoticeQueues → NoticeQueues) : (s.modNotices f).feeders = s.feeders := rfl
@[simp] theorem State.modNotices_taps (f : NoticeQueues → NoticeQueues) : (s.modNotices f).taps = s.taps := rfl
@[simp] theorem State.modNotices_terms (f : NoticeQueues → NoticeQueues) : (s.modNotices f).terms = s.terms := rfl
@[simp] theorem State.modNotices_learned (f : NoticeQueues → NoticeQueues) : (s.modNotices f).learned = s.learned := rfl
@[simp] theorem State.modNotices_tally (f : NoticeQueues → NoticeQueues) : (s.modNotices f).tally = s.tally := rfl
@[simp] theorem State.modNotices_domains (f : NoticeQueues → NoticeQueues) : (s.modNotices f).domains = s.domains := rfl
@[simp] theorem State.modNotices_faults (f : NoticeQueues → NoticeQueues) : (s.modNotices f).faults = s.faults := rfl
@[simp] theorem State.modNotices_faultCtl (f : NoticeQueues → NoticeQueues) : (s.modNotices f).faultCtl = s.faultCtl := rfl
@[simp] theorem State.modNotices_latch (f : NoticeQueues → NoticeQueues) : (s.modNotices f).latch = s.latch := rfl
@[simp] theorem State.modNotices_notices (f : NoticeQueues → NoticeQueues) : (s.modNotices f).notices = f s.notices := rfl
@[simp] theorem State.modNotices_floorMask (f : NoticeQueues → NoticeQueues) : (s.modNotices f).floorMask = s.floorMask := rfl
@[simp] theorem State.modNotices_enables (f : NoticeQueues → NoticeQueues) : (s.modNotices f).enables = s.enables := rfl
@[simp] theorem State.modNotices_settings (f : NoticeQueues → NoticeQueues) : (s.modNotices f).settings = s.settings := rfl
@[simp] theorem State.modNotices_store (f : NoticeQueues → NoticeQueues) : (s.modNotices f).store = s.store := rfl
@[simp] theorem State.modNotices_halted (f : NoticeQueues → NoticeQueues) : (s.modNotices f).halted = s.halted := rfl
@[simp] theorem State.modNotices_fmus (f : NoticeQueues → NoticeQueues) : (s.modNotices f).fmus = s.fmus := rfl

@[simp] theorem State.modStore_pending (f : Store → Store) : (s.modStore f).pending = s.pending := rfl
@[simp] theorem State.modStore_clock (f : Store → Store) : (s.modStore f).clock = s.clock := rfl
@[simp] theorem State.modStore_link (f : Store → Store) : (s.modStore f).link = s.link := rfl
@[simp] theorem State.modStore_riser (f : Store → Store) : (s.modStore f).riser = s.riser := rfl
@[simp] theorem State.modStore_sched (f : Store → Store) : (s.modStore f).sched = s.sched := rfl
@[simp] theorem State.modStore_units (f : Store → Store) : (s.modStore f).units = s.units := rfl
@[simp] theorem State.modStore_feeders (f : Store → Store) : (s.modStore f).feeders = s.feeders := rfl
@[simp] theorem State.modStore_taps (f : Store → Store) : (s.modStore f).taps = s.taps := rfl
@[simp] theorem State.modStore_terms (f : Store → Store) : (s.modStore f).terms = s.terms := rfl
@[simp] theorem State.modStore_learned (f : Store → Store) : (s.modStore f).learned = s.learned := rfl
@[simp] theorem State.modStore_tally (f : Store → Store) : (s.modStore f).tally = s.tally := rfl
@[simp] theorem State.modStore_domains (f : Store → Store) : (s.modStore f).domains = s.domains := rfl
@[simp] theorem State.modStore_faults (f : Store → Store) : (s.modStore f).faults = s.faults := rfl
@[simp] theorem State.modStore_faultCtl (f : Store → Store) : (s.modStore f).faultCtl = s.faultCtl := rfl
@[simp] theorem State.modStore_latch (f : Store → Store) : (s.modStore f).latch = s.latch := rfl
@[simp] theorem State.modStore_notices (f : Store → Store) : (s.modStore f).notices = s.notices := rfl
@[simp] theorem State.modStore_floorMask (f : Store → Store) : (s.modStore f).floorMask = s.floorMask := rfl
@[simp] theorem State.modStore_enables (f : Store → Store) : (s.modStore f).enables = s.enables := rfl
@[simp] theorem State.modStore_settings (f : Store → Store) : (s.modStore f).settings = s.settings := rfl
@[simp] theorem State.modStore_store (f : Store → Store) : (s.modStore f).store = f s.store := rfl
@[simp] theorem State.modStore_halted (f : Store → Store) : (s.modStore f).halted = s.halted := rfl
@[simp] theorem State.modStore_fmus (f : Store → Store) : (s.modStore f).fmus = s.fmus := rfl

@[simp] theorem State.modFmus_pending (f : Table Fmu → Table Fmu) : (s.modFmus f).pending = s.pending := rfl
@[simp] theorem State.modFmus_clock (f : Table Fmu → Table Fmu) : (s.modFmus f).clock = s.clock := rfl
@[simp] theorem State.modFmus_link (f : Table Fmu → Table Fmu) : (s.modFmus f).link = s.link := rfl
@[simp] theorem State.modFmus_riser (f : Table Fmu → Table Fmu) : (s.modFmus f).riser = s.riser := rfl
@[simp] theorem State.modFmus_sched (f : Table Fmu → Table Fmu) : (s.modFmus f).sched = s.sched := rfl
@[simp] theorem State.modFmus_units (f : Table Fmu → Table Fmu) : (s.modFmus f).units = s.units := rfl
@[simp] theorem State.modFmus_feeders (f : Table Fmu → Table Fmu) : (s.modFmus f).feeders = s.feeders := rfl
@[simp] theorem State.modFmus_taps (f : Table Fmu → Table Fmu) : (s.modFmus f).taps = s.taps := rfl
@[simp] theorem State.modFmus_terms (f : Table Fmu → Table Fmu) : (s.modFmus f).terms = s.terms := rfl
@[simp] theorem State.modFmus_learned (f : Table Fmu → Table Fmu) : (s.modFmus f).learned = s.learned := rfl
@[simp] theorem State.modFmus_tally (f : Table Fmu → Table Fmu) : (s.modFmus f).tally = s.tally := rfl
@[simp] theorem State.modFmus_domains (f : Table Fmu → Table Fmu) : (s.modFmus f).domains = s.domains := rfl
@[simp] theorem State.modFmus_faults (f : Table Fmu → Table Fmu) : (s.modFmus f).faults = s.faults := rfl
@[simp] theorem State.modFmus_faultCtl (f : Table Fmu → Table Fmu) : (s.modFmus f).faultCtl = s.faultCtl := rfl
@[simp] theorem State.modFmus_latch (f : Table Fmu → Table Fmu) : (s.modFmus f).latch = s.latch := rfl
@[simp] theorem State.modFmus_notices (f : Table Fmu → Table Fmu) : (s.modFmus f).notices = s.notices := rfl
@[simp] theorem State.modFmus_floorMask (f : Table Fmu → Table Fmu) : (s.modFmus f).floorMask = s.floorMask := rfl
@[simp] theorem State.modFmus_enables (f : Table Fmu → Table Fmu) : (s.modFmus f).enables = s.enables := rfl
@[simp] theorem State.modFmus_settings (f : Table Fmu → Table Fmu) : (s.modFmus f).settings = s.settings := rfl
@[simp] theorem State.modFmus_store (f : Table Fmu → Table Fmu) : (s.modFmus f).store = s.store := rfl
@[simp] theorem State.modFmus_halted (f : Table Fmu → Table Fmu) : (s.modFmus f).halted = s.halted := rfl
@[simp] theorem State.modFmus_fmus (f : Table Fmu → Table Fmu) : (s.modFmus f).fmus = f s.fmus := rfl

/-! ## An FMU on the line (R25) -/

@[simp] theorem Fmu.onLine_deaf (f : Fmu) (q : Bool) : (f.onLine q).deaf = (f.deaf && !q) := rfl
@[simp] theorem Fmu.onLine_floor (f : Fmu) (q : Bool) : (f.onLine q).floor = f.floor := rfl
@[simp] theorem Fmu.onLine_queue (f : Fmu) (q : Bool) : (f.onLine q).queue = f.queue := rfl
@[simp] theorem Fmu.onLine_held (f : Fmu) (q : Bool) : (f.onLine q).held = f.held := rfl
@[simp] theorem Fmu.onLine_light (f : Fmu) (q : Bool) : (f.onLine q).light = f.light := rfl

/-- All that a command frame can come to at one FMU (R25). -/
theorem hearAt_cases (h : Hearing) (frame : List Byte) (n : Nat) (f : Fmu) :
    (f.deaf = true ∧ hearAt h frame (n, f) = (f, [])) ∨
    (f.deaf = false ∧ (∃ d ∈ h.addressBadAt, d.toNat = n) ∧ hearAt h frame (n, f) = ({ f with deaf := true }, [])) ∨
    (f.deaf = false ∧ (∀ d ∈ h.addressBadAt, d.toNat ≠ n) ∧ (∃ d ∈ h.damagedAt, d.toNat = n) ∧
      hearAt h frame (n, f) = (f, [])) ∨
    (f.deaf = false ∧ (∀ d ∈ h.addressBadAt, d.toNat ≠ n) ∧ (∀ d ∈ h.damagedAt, d.toNat ≠ n) ∧
      hearAt h frame (n, f) = f.hear frame (tapsOf h n).1 (tapsOf h n).2) := by
  cases hd : f.deaf
  · by_cases ha : ∃ d ∈ h.addressBadAt, d.toNat = n
    · exact .inr (.inl ⟨rfl, ha, by simp [hearAt, hd, ha]⟩)
    · by_cases hg : ∃ d ∈ h.damagedAt, d.toNat = n
      · exact .inr (.inr (.inl ⟨rfl, by simpa using ha, hg, by simp [hearAt, hd, ha, hg]⟩))
      · exact .inr (.inr (.inr ⟨rfl, by simpa using ha, by simpa using hg, by simp [hearAt, hd, ha, hg]⟩))
  · exact .inl ⟨rfl, by simp [hearAt, hd]⟩

end Sys2Proof.Machine
end

