-- ==== Sys2Proof/Laws/Tables.lean ====
section
/-! SUPPORT. What reading, changing, putting and erasing do to a table and to its rising keys; rising lists of
addresses. -/

namespace Sys2Proof.Machine

variable {α : Type}

/-! ## Reading after a change -/

@[simp] theorem Table.get?_nil (k : Nat) : Table.get? ([] : Table α) k = none := rfl

theorem Table.get?_cons (e : Nat × α) (t : Table α) (k : Nat) :
    Table.get? (e :: t) k = if e.1 = k then some e.2 else Table.get? t k := rfl

theorem Table.get?_modify (t : Table α) (k j : Nat) (f : α → α) :
    Table.get? (Table.modify t k f) j = if j = k then (Table.get? t j).map f else Table.get? t j := by
  induction t with
  | nil => simp [Table.modify]
  | cons e t ih =>
    simp only [Table.modify, List.map_cons] at ih ⊢
    by_cases h : e.1 = k
    · by_cases hj : j = k
      · subst h; subst hj; simp [Table.get?_cons]
      · have : e.1 ≠ j := by omega
        simp [h, Table.get?_cons, hj] at ih ⊢
        have hkj : k ≠ j := by omega
        simp [hkj, ih]
    · by_cases hej : e.1 = j
      · subst hej; simp [Table.get?_cons, h]
      · simp [h, Table.get?_cons, hej, ih]

@[simp] theorem Table.get?_modify_self (t : Table α) (k : Nat) (f : α → α) :
    Table.get? (Table.modify t k f) k = (Table.get? t k).map f := by simp [Table.get?_modify]

theorem Table.get?_modify_ne (t : Table α) {k j : Nat} (f : α → α) (h : j ≠ k) :
    Table.get? (Table.modify t k f) j = Table.get? t j := by simp [Table.get?_modify, h]

theorem Table.get?_put (t : Table α) (k j : Nat) (v : α) :
    Table.get? (Table.put t k v) j = if j = k then some v else Table.get? t j := by
  induction t with
  | nil => simp [Table.put, Table.get?_cons, eq_comm (a := k)]
  | cons e t ih =>
    obtain ⟨a, b⟩ := e
    by_cases hj : j = k
    · subst hj
      simp only [Table.put]
      split
      · simp [Table.get?_cons]
      · split
        · simp [Table.get?_cons]
        · rename_i h1 h2
          have : a ≠ j := by omega
          simpa [Table.get?_cons, this] using ih
    · have hkj : k ≠ j := by omega
      simp only [Table.put]
      split
      · simp [Table.get?_cons, hkj]
      · split
        · rename_i h1 h2; subst h2; simp [Table.get?_cons, hkj]
        · simp only [Table.get?_cons, ih, hj, if_false]

@[simp] theorem Table.get?_put_self (t : Table α) (k : Nat) (v : α) : Table.get? (Table.put t k v) k = some v := by
  simp [Table.get?_put]

theorem Table.get?_put_ne (t : Table α) {k j : Nat} (v : α) (h : j ≠ k) :
    Table.get? (Table.put t k v) j = Table.get? t j := by simp [Table.get?_put, h]

theorem Table.get?_erase (t : Table α) (k j : Nat) :
    Table.get? (Table.erase t k) j = if j = k then none else Table.get? t j := by
  induction t with
  | nil => simp [Table.erase]
  | cons e t ih =>
    by_cases h : e.1 = k
    · have he : Table.erase (e :: t) k = Table.erase t k := by simp [Table.erase, h]
      rw [he, ih, Table.get?_cons]
      by_cases hj : j = k
      · simp [hj]
      · have : e.1 ≠ j := by omega
        simp [hj, this]
    · have he : Table.erase (e :: t) k = e :: Table.erase t k := by simp [Table.erase, h]
      rw [he, Table.get?_cons, Table.get?_cons, ih]
      by_cases hj : e.1 = j
      · have : j ≠ k := by omega
        simp [hj, this]
      · simp [hj]

@[simp] theorem Table.get?_erase_self (t : Table α) (k : Nat) : Table.get? (Table.erase t k) k = none := by
  simp [Table.get?_erase]

theorem Table.get?_erase_ne (t : Table α) {k j : Nat} (h : j ≠ k) :
    Table.get? (Table.erase t k) j = Table.get? t j := by simp [Table.get?_erase, h]

theorem Table.has_iff_mem_keys (t : Table α) (k : Nat) : Table.has t k = true ↔ k ∈ t.map Prod.fst := by
  induction t with
  | nil => simp [Table.has]
  | cons e t ih =>
    simp only [Table.has, Table.get?_cons, List.map_cons, List.mem_cons] at ih ⊢
    by_cases h : e.1 = k
    · simp [h]
    · have h' : k ≠ e.1 := fun x => h x.symm
      simp [h, h', ih]

theorem Table.mem_of_get? {t : Table α} {k : Nat} {v : α} (h : Table.get? t k = some v) : (k, v) ∈ t := by
  induction t with
  | nil => simp at h
  | cons e t ih =>
    rw [Table.get?_cons] at h
    split at h
    · rename_i hk; cases h; subst hk; exact List.mem_cons_self ..
    · exact List.mem_cons_of_mem _ (ih h)

/-! ## Keys -/

@[simp] theorem Table.keys_modify (t : Table α) (k : Nat) (f : α → α) :
    (Table.modify t k f).map Prod.fst = t.map Prod.fst := by
  simp only [Table.modify, List.map_map]
  apply List.map_congr_left
  intro e _
  simp only [Function.comp]
  split <;> rfl

/-- The canonical form speaks of the keys alone. -/
theorem Table.rising_iff (t : Table α) : Table.rising t = true ↔ (t.map Prod.fst).Pairwise (· < ·) := by
  induction t with
  | nil => simp [Table.rising]
  | cons a t ih =>
    cases t with
    | nil => simp [Table.rising]
    | cons b t =>
      simp only [Table.rising, Bool.and_eq_true, decide_eq_true_eq, ih, List.map_cons, List.pairwise_cons,
        List.mem_cons]
      constructor
      · rintro ⟨h, h1, h2⟩
        refine ⟨?_, h1, h2⟩
        rintro c (rfl | hc)
        · exact h
        · exact Nat.lt_trans h (h1 c hc)
      · rintro ⟨h, h1, h2⟩
        exact ⟨h _ (Or.inl rfl), h1, h2⟩

theorem Table.mem_keys_put (t : Table α) (k j : Nat) (v : α) :
    j ∈ (Table.put t k v).map Prod.fst ↔ j = k ∨ j ∈ t.map Prod.fst := by
  rw [← Table.has_iff_mem_keys, ← Table.has_iff_mem_keys, Table.has, Table.has, Table.get?_put]
  by_cases h : j = k <;> simp [h]

/-- Changing a record keeps the canonical form. -/
theorem Table.rising_modify {t : Table α} (k : Nat) (f : α → α) (h : Table.rising t = true) :
    Table.rising (Table.modify t k f) = true := by
  rw [Table.rising_iff] at h ⊢; simpa using h

/-- Putting a record keeps the canonical form. -/
theorem Table.rising_put {t : Table α} (k : Nat) (v : α) (h : Table.rising t = true) :
    Table.rising (Table.put t k v) = true := by
  rw [Table.rising_iff] at h ⊢
  induction t with
  | nil => simp [Table.put]
  | cons e t ih =>
    obtain ⟨a, b⟩ := e
    simp only [List.map_cons, List.pairwise_cons] at h
    simp only [Table.put]
    split
    · rename_i hk
      simp only [List.map_cons, List.pairwise_cons, List.mem_cons]
      refine ⟨?_, h⟩
      rintro c (rfl | hc)
      · exact hk
      · exact Nat.lt_trans hk (h.1 c hc)
    · split
      · rename_i hk; subst hk; simpa using h
      · simp only [List.map_cons, List.pairwise_cons]
        refine ⟨fun c hc => ?_, ih h.2⟩
        rcases (Table.mem_keys_put t k c v).mp hc with rfl | hc
        · omega
        · exact h.1 c hc

/-- Erasing a record keeps the canonical form. -/
theorem Table.rising_erase {t : Table α} (k : Nat) (h : Table.rising t = true) :
    Table.rising (Table.erase t k) = true := by
  rw [Table.rising_iff] at h ⊢
  exact h.sublist (List.filter_sublist.map _)

theorem Table.length_erase_le (t : Table α) (k : Nat) : (Table.erase t k).length ≤ t.length :=
  List.length_filter_le ..

@[simp] theorem Table.length_modify (t : Table α) (k : Nat) (f : α → α) :
    (Table.modify t k f).length = t.length := by simp [Table.modify]

/-! ## Rising lists of addresses -/

@[simp] theorem mem_insertAddr (a b : Nat) (l : List Nat) : a ∈ insertAddr b l ↔ a = b ∨ a ∈ l := by
  induction l with
  | nil => simp [insertAddr]
  | cons c l ih =>
    simp only [insertAddr]
    split
    · simp
    · split
      · rename_i h; subst h; simp
      · simp only [List.mem_cons, ih]; tauto

theorem risingAddrs_iff (l : List Nat) : risingAddrs l = true ↔ l.Pairwise (· < ·) := by
  induction l with
  | nil => simp [risingAddrs]
  | cons a l ih =>
    cases l with
    | nil => simp [risingAddrs]
    | cons b l =>
      simp only [risingAddrs, Bool.and_eq_true, decide_eq_true_eq, ih, List.pairwise_cons, List.mem_cons]
      constructor
      · rintro ⟨h, h1, h2⟩
        refine ⟨?_, h1, h2⟩
        rintro c (rfl | hc)
        · exact h
        · exact Nat.lt_trans h (h1 c hc)
      · rintro ⟨h, h1, h2⟩
        exact ⟨h _ (Or.inl rfl), h1, h2⟩

theorem risingAddrs_insertAddr {l : List Nat} (a : Nat) (h : risingAddrs l = true) :
    risingAddrs (insertAddr a l) = true := by
  rw [risingAddrs_iff] at h ⊢
  induction l with
  | nil => simp [insertAddr]
  | cons b l ih =>
    rw [List.pairwise_cons] at h
    simp only [insertAddr]
    split
    · rename_i hk
      simp only [List.pairwise_cons, List.mem_cons]
      refine ⟨?_, h⟩
      rintro c (rfl | hc)
      · exact hk
      · exact Nat.lt_trans hk (h.1 c hc)
    · split
      · rename_i hk; subst hk; simpa using h
      · rw [List.pairwise_cons]
        refine ⟨fun c hc => ?_, ih h.2⟩
        rcases (mem_insertAddr c a l).mp hc with rfl | hc
        · omega
        · exact h.1 c hc

theorem risingAddrs_filter {l : List Nat} (p : Nat → Bool) (h : risingAddrs l = true) :
    risingAddrs (l.filter p) = true := by
  rw [risingAddrs_iff] at h ⊢; exact h.filter _

@[simp] theorem mem_uniteAddrs (a : Nat) (r l : List Nat) : a ∈ uniteAddrs r l ↔ a ∈ r ∨ a ∈ l := by
  induction r with
  | nil => simp [uniteAddrs]
  | cons b r ih =>
    have : uniteAddrs (b :: r) l = insertAddr b (uniteAddrs r l) := rfl
    rw [this, mem_insertAddr, ih, List.mem_cons]; tauto

theorem risingAddrs_uniteAddrs {l : List Nat} (r : List Nat) (h : risingAddrs l = true) :
    risingAddrs (uniteAddrs r l) = true := by
  induction r with
  | nil => exact h
  | cons b r ih => exact risingAddrs_insertAddr b ih

/-- The latch keeps its rising form under every combine mode. -/
theorem risingAddrs_combineLatch (m : Combine) (r : List Nat) {l : List Nat} (h : risingAddrs l = true) :
    risingAddrs (combineLatch m r l) = true := by
  cases m with
  | copy => exact risingAddrs_uniteAddrs r rfl
  | and => exact risingAddrs_filter _ h
  | or => exact risingAddrs_uniteAddrs r h
  | xor => exact risingAddrs_uniteAddrs _ (risingAddrs_filter _ h)

/-! ## Runs over keys -/

/-- What every change of a run keeps, the run keeps. -/
theorem overKeys_keeps {σ : Type} {p : σ → Prop} {f : Nat → σ → σ} (step : ∀ k s, p s → p (f k s))
    (keys : List Nat) (s : σ) (h : p s) : p (overKeys keys f s) := by
  induction keys generalizing s with
  | nil => exact h
  | cons k keys ih => exact ih _ (step k s h)

end Sys2Proof.Machine
end

