-- ==== Sys2Proof/Laws/Settle.lean ====
section
/-! SUPPORT. Settling changes nothing but what `still` blanks: the window flag and step timer, the scheduler's
choice, the transaction it starts, and the frame that an idle transmitter begins. -/

namespace Sys2Proof.Machine

/-! ## The window flag -/

theorem State.syncWindowFlag_still (s : State) : s.syncWindowFlag.still = s.still := by
  simp only [State.syncWindowFlag]
  split <;> split <;> rfl

/-! ## The attention line -/

theorem State.observeLine_still (s : State) : s.observeLine.still = s.still := by
  simp [State.still, State.observeLine, State.markSeen, State.modRiser, Riser.still, State.attnLow]

theorem State.observeLine_link (s : State) : s.observeLine.link = s.link := rfl

/-! ## The scheduler -/

theorem State.startTxn_still (s : State) (o : Order) : (s.startTxn o).still = s.still := rfl

theorem State.startVisit_still (s : State) (f : Nat) : (s.startVisit f).still = s.still := rfl

theorem State.startExtra_still (s : State) (v : Visit) : (s.startExtra v).still = s.still := rfl

theorem State.cycleStep_still (n : Nat) (s : State) : (State.cycleStep n s).still = s.still := by
  induction n generalizing s with
  | zero => rfl
  | succ n ih =>
    simp only [State.cycleStep]
    split
    · rfl
    · split
      · rw [ih]; rfl
      · rfl

theorem State.sweepStep_still (n : Nat) (w : Sweep) (s : State) : (State.sweepStep n w s).still = s.still := by
  induction n generalizing w with
  | zero => simp only [State.sweepStep]; rw [State.cycleStep_still]; rfl
  | succ n ih =>
    simp only [State.sweepStep]
    split
    · rfl
    · split
      · exact ih _
      · rw [State.cycleStep_still]; rfl

theorem State.schedule_still (s : State) : s.schedule.still = s.still := by
  simp only [State.schedule]
  split
  · rfl
  · split
    · rfl
    · split
      · rw [State.sweepStep_still]; rfl
      · split
        · rfl
        · split
          · rw [State.sweepStep_still]; rfl
          · split
            · rfl
            · rw [State.cycleStep_still]; rfl

/-! ## The transmitter -/

theorem State.beginFrame_still (s : State) (f : TxFrame) : (s.beginFrame f).still = s.still := rfl

theorem State.beginNotice_still (s : State) : s.beginNotice.still = s.still := by
  simp only [State.beginNotice]
  split
  · rfl
  · split <;> rfl

theorem State.beginOverflow_still (s : State) (c : NoticeClass) : (s.beginOverflow c).still = s.still := by
  cases c <;> rfl

theorem State.beginOwn_still (s : State) : s.beginOwn.still = s.still := by
  simp only [State.beginOwn]
  split
  · rfl
  · split
    · exact s.beginOverflow_still _
    · exact s.beginNotice_still

theorem State.beginReady_still (s : State) : s.beginReady.still = s.still := by
  simp only [State.beginReady]
  split
  · rfl
  · split
    · rfl
    · exact s.beginOwn_still

/-- The end of a round writes the credits and nothing else. -/
theorem State.endRound_cases (s : State) : ∃ k, s.endRound = s.modNotices fun n => { n with credits := k } := by
  simp only [State.endRound]
  split
  · exact ⟨s.notices.credits, rfl⟩
  · by_cases h : s.notices.credited.isSome
    · exact ⟨s.notices.credits, by simp [State.modNotices, NoticeQueues.endRound, h]⟩
    · exact ⟨fullCredits, by simp [State.modNotices, NoticeQueues.endRound, h]⟩

theorem State.endRound_still (s : State) : s.endRound.still = s.still := by
  obtain ⟨k, h⟩ := s.endRound_cases
  rw [h]; rfl

@[simp] theorem State.endRound_link (s : State) : s.endRound.link = s.link := by
  obtain ⟨k, h⟩ := s.endRound_cases
  rw [h]; rfl

theorem State.txKick_still (s : State) : s.txKick.still = s.still := by
  simp only [State.txKick]
  split
  · rfl
  · rw [s.endRound.beginReady_still, s.endRound_still]

/-- Settling keeps all that `still` keeps. -/
theorem State.settle_still (s : State) : s.settle.still = s.still := by
  simp only [State.settle, State.txKick_still, State.schedule_still, State.observeLine_still,
    State.syncWindowFlag_still]

/-! ## What equal `still` gives, block by block -/

theorem State.pending_of_still {s t : State} (h : t.still = s.still) : t.pending = s.pending :=
  (congrArg (fun x : State => x.pending) h :)
theorem State.clock_of_still {s t : State} (h : t.still = s.still) : t.clock = s.clock :=
  (congrArg (fun x : State => x.clock) h :)
theorem State.units_of_still {s t : State} (h : t.still = s.still) : t.units = s.units :=
  (congrArg (fun x : State => x.units) h :)
theorem State.feeders_of_still {s t : State} (h : t.still = s.still) : t.feeders = s.feeders :=
  (congrArg (fun x : State => x.feeders) h :)
theorem State.taps_of_still {s t : State} (h : t.still = s.still) : t.taps = s.taps :=
  (congrArg (fun x : State => x.taps) h :)
theorem State.terms_of_still {s t : State} (h : t.still = s.still) : t.terms = s.terms :=
  (congrArg (fun x : State => x.terms) h :)
theorem State.learned_of_still {s t : State} (h : t.still = s.still) : t.learned = s.learned :=
  (congrArg (fun x : State => x.learned) h :)
theorem State.tally_of_still {s t : State} (h : t.still = s.still) : t.tally = s.tally :=
  (congrArg (fun x : State => x.tally) h :)
theorem State.domains_of_still {s t : State} (h : t.still = s.still) : t.domains = s.domains :=
  (congrArg (fun x : State => x.domains) h :)
theorem State.faults_of_still {s t : State} (h : t.still = s.still) : t.faults = s.faults :=
  (congrArg (fun x : State => x.faults) h :)
theorem State.faultCtl_of_still {s t : State} (h : t.still = s.still) : t.faultCtl = s.faultCtl :=
  (congrArg (fun x : State => x.faultCtl) h :)
theorem State.latch_of_still {s t : State} (h : t.still = s.still) : t.latch = s.latch :=
  (congrArg (fun x : State => x.latch) h :)
theorem State.floorMask_of_still {s t : State} (h : t.still = s.still) : t.floorMask = s.floorMask :=
  (congrArg (fun x : State => x.floorMask) h :)
theorem State.enables_of_still {s t : State} (h : t.still = s.still) : t.enables = s.enables :=
  (congrArg (fun x : State => x.enables) h :)
theorem State.settings_of_still {s t : State} (h : t.still = s.still) : t.settings = s.settings :=
  (congrArg (fun x : State => x.settings) h :)
theorem State.store_of_still {s t : State} (h : t.still = s.still) : t.store = s.store :=
  (congrArg (fun x : State => x.store) h :)
theorem State.halted_of_still {s t : State} (h : t.still = s.still) : t.halted = s.halted :=
  (congrArg (fun x : State => x.halted) h :)
theorem State.fmus_of_still {s t : State} (h : t.still = s.still) : t.fmus = s.fmus :=
  (congrArg (fun x : State => x.fmus) h :)
theorem State.level_of_still {s t : State} (h : t.still = s.still) : t.sched.level = s.sched.level :=
  (congrArg (fun x : State => x.sched.level) h :)
theorem State.pendingClear_of_still {s t : State} (h : t.still = s.still) :
    t.sched.pendingClear = s.sched.pendingClear := (congrArg (fun x : State => x.sched.pendingClear) h :)
theorem State.riser_of_still {s t : State} (h : t.still = s.still) :
    { t.riser.still with mark := t.markSeen } = { s.riser.still with mark := s.markSeen } :=
  (congrArg (fun x : State => x.riser) h :)
theorem State.link_of_still {s t : State} (h : t.still = s.still) : t.link.still = s.link.still :=
  (congrArg (fun x : State => x.link) h :)
theorem State.notices_of_still {s t : State} (h : t.still = s.still) : t.notices.still = s.notices.still :=
  (congrArg (fun x : State => x.notices) h :)

/-! ## What settling does to the buffer -/

/-- A reply that is ready in the buffer may have been put on the line. -/
def Entry.advanced (a b : Entry) : Prop :=
  a.tag = b.tag ∧ a.req = b.req ∧ (a.cond = b.cond ∨ ∃ r, a.cond = .answered r ∧ b.cond = .sending r)

theorem Entry.advanced_refl (a : Entry) : a.advanced a := ⟨rfl, rfl, Or.inl rfl⟩

/-- Beginning a reply moves one answered request to sending, and no other. -/
theorem beginReply_advanced {l b : List Entry} {f : TxFrame} (h : beginReply l = some (f, b)) :
    List.Forall₂ Entry.advanced l b := by
  induction l generalizing b with
  | nil => simp [beginReply] at h
  | cons e l ih =>
    simp only [beginReply] at h
    split at h
    · rename_i r hr
      cases h
      exact .cons ⟨rfl, rfl, Or.inr ⟨r, hr, rfl⟩⟩ (List.forall₂_same.mpr fun x _ => x.advanced_refl)
    all_goals
      cases hb : beginReply l with
      | none => simp [hb] at h
      | some p =>
        simp only [hb, Option.map_some, Option.some.injEq, Prod.mk.injEq] at h
        obtain ⟨rfl, rfl⟩ := h
        exact .cons e.advanced_refl (ih hb)

theorem State.beginNotice_buffer (s : State) : s.beginNotice.link.buffer = s.link.buffer := by
  simp only [State.beginNotice]
  split
  · rfl
  · split <;> rfl

theorem State.beginOwn_buffer (s : State) : s.beginOwn.link.buffer = s.link.buffer := by
  simp only [State.beginOwn]
  split
  · rfl
  · split
    · rfl
    · exact s.beginNotice_buffer

theorem State.beginReady_buffer (s : State) :
    List.Forall₂ Entry.advanced s.link.buffer s.beginReady.link.buffer := by
  have same : List.Forall₂ Entry.advanced s.link.buffer s.link.buffer :=
    List.forall₂_same.mpr fun x _ => x.advanced_refl
  simp only [State.beginReady]
  split
  · exact same
  · split
    · rename_i h; exact beginReply_advanced h
    · rw [s.beginOwn_buffer]; exact same

theorem State.txKick_buffer (s : State) : List.Forall₂ Entry.advanced s.link.buffer s.txKick.link.buffer := by
  simp only [State.txKick]
  split
  · exact List.forall₂_same.mpr fun x _ => x.advanced_refl
  · simpa using s.endRound.beginReady_buffer

theorem State.syncWindowFlag_link (s : State) : s.syncWindowFlag.link = s.link := by
  simp only [State.syncWindowFlag]
  split <;> split <;> rfl

theorem State.cycleStep_link (n : Nat) (s : State) : (State.cycleStep n s).link = s.link := by
  induction n generalizing s with
  | zero => rfl
  | succ n ih =>
    simp only [State.cycleStep]
    split
    · rfl
    · split
      · rw [ih]; rfl
      · rfl

theorem State.sweepStep_link (n : Nat) (w : Sweep) (s : State) : (State.sweepStep n w s).link = s.link := by
  induction n generalizing w with
  | zero => simp only [State.sweepStep]; rw [State.cycleStep_link]; rfl
  | succ n ih =>
    simp only [State.sweepStep]
    split
    · rfl
    · split
      · exact ih _
      · rw [State.cycleStep_link]; rfl

theorem State.schedule_link (s : State) : s.schedule.link = s.link := by
  simp only [State.schedule]
  split
  · rfl
  · split
    · rfl
    · split
      · rw [State.sweepStep_link]; rfl
      · split
        · rfl
        · split
          · rw [State.sweepStep_link]; rfl
          · split
            · rfl
            · rw [State.cycleStep_link]; rfl

/-- Settling keeps every buffered request, and may put one ready reply on the line. -/
theorem State.settle_buffer (s : State) : List.Forall₂ Entry.advanced s.link.buffer s.settle.link.buffer := by
  have h := s.syncWindowFlag.observeLine.schedule.txKick_buffer
  rwa [State.schedule_link, State.observeLine_link, State.syncWindowFlag_link] at h

/-- A request that joined the buffer answered is replied to after settling. -/
theorem State.replied_settle (s : State) (tag : Byte) (r : Request) (reply : Reply) (b : List Entry)
    (h : s.link.buffer = b ++ [⟨tag, r, .answered reply⟩]) : s.settle.Replied tag r reply := by
  have hf := s.settle_buffer
  rw [h] at hf
  obtain ⟨b', e', he, -, hb⟩ : ∃ b' e', s.settle.link.buffer = b' ++ [e'] ∧ List.Forall₂ Entry.advanced b b' ∧
      Entry.advanced ⟨tag, r, .answered reply⟩ e' := by
    generalize s.settle.link.buffer = c at hf
    clear h
    induction b generalizing c with
    | nil =>
      cases hf with
      | cons h1 h2 => cases h2; exact ⟨[], _, rfl, .nil, h1⟩
    | cons x b ih =>
      cases hf with
      | cons h1 h2 =>
        obtain ⟨b', e', rfl, h3, h4⟩ := ih _ h2
        exact ⟨_ :: b', e', rfl, .cons h1 h3, h4⟩
  obtain ⟨tag', r', c'⟩ := e'
  obtain ⟨h1, h2, h3⟩ := hb
  simp only at h1 h2 h3
  subst h1; subst h2
  refine ⟨c', by simp [he], ?_⟩
  rcases h3 with h3 | ⟨r', h3, h4⟩
  · exact Or.inl h3.symm
  · cases h3; exact Or.inr h4

/-! ## A request row, once and for all -/

/-- A request taken at once and answered: its reply is ready or on the line, and the tables are those that the
taking left. The provers' entry to every request statement. -/
theorem State.request_answered (s : State) (tag : Byte) (r : Request) (hl : s.Listens) {s1 : State}
    {reply : Reply} (ht : s.counted.take r = (s1, some reply))
    (hb : s1.link.buffer = s.link.buffer) :
    (s.request tag r).Replied tag r reply ∧ (s.request tag r).still = s1.still := by
  have hn : ¬ s.link.buffer.length ≥ 4 := by have := hl.1; omega
  have ha : s.arrive tag r = s1.buffer ⟨tag, r, .answered reply⟩ := by
    have ht' : (s.modLink fun l => { l with good := inc16 l.good }).take r = (s1, some reply) := ht
    have hr : (s.modLink fun l => { l with good := inc16 l.good }).link.restart = false := hl.2
    simp only [State.arrive, hn, if_false, hr, Bool.false_eq_true, State.takeIntoBuffer, ht', conditionAfter]
  constructor
  · rw [State.request, ha]
    exact State.replied_settle _ tag r reply s.link.buffer (by simp [State.buffer, hb])
  · rw [State.request, State.settle_still, ha]; rfl

end Sys2Proof.Machine
end

