-- ==== Sys2Proof/Laws/Frames.lean ====
section
/-! SUPPORT. What the running of the part never touches: the waiting commands, the clock, the host link, the
latch, the masks, the settings, the store and HALTED, and every provisioned field and key of the tables. One
lemma for each operation of the fault table, the correlator, the terminal table, the optical monitor and the
riser. -/

namespace Sys2Proof.Machine

/-- The state with all that events change blanked: what is left is what the host provisions. -/
def State.kept (s : State) : State :=
  { s with
    riser := newRiser
    sched := newSched 0
    units := s.units.map fun e => (e.1, newUnit)
    feeders := newFeeders
    taps := []
    terms := s.terms.map fun e => (e.1, newTerminal e.2.prov)
    learned := []
    tally := newTally 0
    domains := s.domains.map fun e => (e.1, newDomain e.2.fields)
    faults := []
    faultCtl := newFaultControl
    notices := newQueues
    fmus := [] }

theorem Table.map_modify {α β : Type} (t : Table α) (k : Nat) (f : α → α) (g : α → β) (h : ∀ a, g (f a) = g a) :
    (Table.modify t k f).map (fun e => (e.1, g e.2)) = t.map (fun e => (e.1, g e.2)) := by
  simp only [Table.modify, List.map_map]
  apply List.map_congr_left
  intro e _
  simp only [Function.comp]
  split
  · simp [h]
  · rfl

/-! ## Named updates -/

@[simp] theorem State.modRiser_kept (s : State) (f : Riser → Riser) : (s.modRiser f).kept = s.kept := rfl
@[simp] theorem State.modSched_kept (s : State) (f : Sched → Sched) : (s.modSched f).kept = s.kept := rfl
@[simp] theorem State.modFmus_kept (s : State) (f : Table Fmu → Table Fmu) : (s.modFmus f).kept = s.kept := rfl
@[simp] theorem State.modLearned_kept (s : State) (f : Table Learned → Table Learned) :
    (s.modLearned f).kept = s.kept := rfl
@[simp] theorem State.modTally_kept (s : State) (f : Tally → Tally) : (s.modTally f).kept = s.kept := rfl
@[simp] theorem State.modFault_kept (s : State) (k : Nat) (f : FaultRecord → FaultRecord) :
    (s.modFault k f).kept = s.kept := rfl
@[simp] theorem State.modFaultCtl_kept (s : State) (f : FaultControl → FaultControl) :
    (s.modFaultCtl f).kept = s.kept := rfl
@[simp] theorem State.modNotices_kept (s : State) (f : NoticeQueues → NoticeQueues) :
    (s.modNotices f).kept = s.kept := rfl
@[simp] theorem State.modUnit_kept (s : State) (k : Nat) (f : FloorUnit → FloorUnit) :
    (s.modUnit k f).kept = s.kept := by
  simp only [State.kept, State.modUnit]
  rw [Table.map_modify s.units k f (fun _ => newUnit) (fun _ => rfl)]
theorem State.modTerm_kept (s : State) (k : Nat) (f : Terminal → Terminal) (h : ∀ t, (f t).prov = t.prov) :
    (s.modTerm k f).kept = s.kept := by
  simp only [State.kept, State.modTerm]
  rw [Table.map_modify s.terms k f (fun t => newTerminal t.prov) (fun t => by rw [h])]
theorem State.modDomain_kept (s : State) (k : Nat) (f : Domain → Domain) (h : ∀ d, (f d).fields = d.fields) :
    (s.modDomain k f).kept = s.kept := by
  simp only [State.kept, State.modDomain]
  rw [Table.map_modify s.domains k f (fun d => newDomain d.fields) (fun d => by rw [h])]

theorem overKeys_kept {f : Nat → State → State} (h : ∀ k s, (f k s).kept = s.kept) (keys : List Nat) (s : State) :
    (overKeys keys f s).kept = s.kept :=
  overKeys_keeps (p := fun t => t.kept = s.kept) (fun k t ht => by rw [h, ht]) keys s rfl

/-! ## Notices, pacing and the window flag -/

@[simp] theorem State.offer_kept (s : State) (c : NoticeClass) (b : NoticeBody) : (s.offer c b).kept = s.kept := rfl
@[simp] theorem State.pacingReturn_kept (s : State) : s.pacingReturn.kept = s.kept := rfl
@[simp] theorem State.syncWindowFlag_kept (s : State) : s.syncWindowFlag.kept = s.kept := by
  unfold State.syncWindowFlag; split <;> split <;> rfl

/-! ## Terminal record changes keep the provisioned fields -/

@[simp] theorem Terminal.enter_prov (t : Terminal) (st : TState) : (t.enter st).prov = t.prov := rfl
@[simp] theorem Terminal.stamp_prov (t : Terminal) (u : Uptime) : (t.stamp u).prov = t.prov := rfl
@[simp] theorem Terminal.leaveHold_prov (t : Terminal) : t.leaveHold.prov = t.prov := by
  unfold Terminal.leaveHold; split <;> rfl
@[simp] theorem Terminal.loseContact_prov (t : Terminal) (u : Uptime) : (t.loseContact u).prov = t.prov := rfl

/-! ## Fault table -/

@[simp] theorem State.startReminder_kept (s : State) (i : Nat) : (s.startReminder i).kept = s.kept := rfl
@[simp] theorem State.offerOpened_kept (s : State) (i : Nat) (w : Bool) : (s.offerOpened i w).kept = s.kept := by
  unfold State.offerOpened; split <;> simp
@[simp] theorem State.offerClosed_kept (s : State) (i : Nat) (r : CloseReason) (a b : Nat) :
    (s.offerClosed i r a b).kept = s.kept := by unfold State.offerClosed; split <;> simp
@[simp] theorem State.offerHeld_kept (s : State) (i : Nat) : (s.offerHeld i).kept = s.kept := by
  unfold State.offerHeld; split <;> simp
@[simp] theorem State.refuseFault_kept (s : State) (k : FaultKind) (i : Nat) : (s.refuseFault k i).kept = s.kept := by
  simp only [State.refuseFault]; split <;> simp
@[simp] theorem State.openFault_kept (s : State) (k : FaultKind) (i : Nat) : (s.openFault k i).1.kept = s.kept := by
  simp only [State.openFault]
  split
  · simp
  · split
    · rw [State.modDomain_kept]
      · rfl
      · intro d; rfl
    · rfl
@[simp] theorem State.linkFault_kept (s : State) (a b : Nat) : (s.linkFault a b).kept = s.kept := rfl
@[simp] theorem State.dropChild_kept (s : State) (a : Nat) : (s.dropChild a).kept = s.kept := rfl
@[simp] theorem State.removeFault_kept (s : State) (i : Nat) : (s.removeFault i).kept = s.kept := by
  simp only [State.removeFault]
  split
  · rfl
  · split
    · rw [State.modDomain_kept]
      · rfl
      · intro d; split <;> rfl
    · rfl
@[simp] theorem progressFault_kept (n i : Nat) (s : State) : (progressFault n i s).kept = s.kept := by
  induction n generalizing i s with
  | zero => rfl
  | succ n ih =>
    simp only [progressFault]
    split
    · rfl
    · split
      · rfl
      · split
        · split <;> simp [ih]
        · simp
@[simp] theorem State.progress_kept (s : State) (i : Nat) : (s.progress i).kept = s.kept := by simp [State.progress]
@[simp] theorem State.faultRestore_kept (s : State) (i : Nat) : (s.faultRestore i).kept = s.kept := by
  simp [State.faultRestore]
@[simp] theorem State.causeGone_kept (s : State) (i : Nat) : (s.causeGone i).kept = s.kept := by
  unfold State.causeGone
  split
  · rfl
  · split <;> simp
@[simp] theorem State.returnToOpen_kept (s : State) (i : Nat) : (s.returnToOpen i).kept = s.kept := rfl
@[simp] theorem State.foldTerm_kept (s : State) (x a : Nat) : (s.foldTerm x a).kept = s.kept := by
  rw [State.foldTerm, State.modFault_kept, State.modTerm_kept]; intro t; simp
@[simp] theorem State.offerTerminalOff_kept (s : State) (a : Nat) (r : OffReason) :
    (s.offerTerminalOff a r).kept = s.kept := by
  unfold State.offerTerminalOff
  split
  · rfl
  · split
    · rfl
    · rw [State.offer_kept, State.modTerm_kept]; intro t; rfl
@[simp] theorem State.releaseTerm_kept (s : State) (a : Nat) : (s.releaseTerm a).kept = s.kept := by
  rw [State.releaseTerm, State.offerTerminalOff_kept, State.modTerm_kept]; intro t; simp
@[simp] theorem State.unfoldAtLimit_kept (s : State) (a : Nat) : (s.unfoldAtLimit a).kept = s.kept := by
  have h : (s.modTerm a fun t => { t with link := none }).kept = s.kept := State.modTerm_kept _ _ _ fun _ => rfl
  simp only [State.unfoldAtLimit]
  split
  · exact h
  · split
    · exact h
    · rw [State.offerTerminalOff_kept, h]
@[simp] theorem State.unfoldCleared_kept (s : State) (a : Nat) : (s.unfoldCleared a).kept = s.kept :=
  State.modTerm_kept _ _ _ fun _ => rfl
@[simp] theorem State.unlinkChild_kept (s : State) (c : Nat) : (s.unlinkChild c).kept = s.kept := by
  simp only [State.unlinkChild]
  split
  · simp
  · split <;> simp
@[simp] theorem State.clearingLimit_kept (s : State) (i : Nat) : (s.clearingLimit i).kept = s.kept := by
  simp only [State.clearingLimit]
  split
  · rfl
  · split <;> simp [overKeys_kept]
@[simp] theorem State.clearTerms_kept (s : State) (i : Nat) : (s.clearTerms i).1.kept = s.kept := by
  simp [State.clearTerms, overKeys_kept]
theorem clearBelow_kept (n i : Nat) (acc : State × Nat × Nat) : (clearBelow n i acc).1.kept = acc.1.kept := by
  induction n generalizing i acc with
  | zero => rfl
  | succ n ih =>
    simp only [clearBelow]
    generalize sortIds (acc.1.childFaults i) = l
    induction l generalizing acc with
    | nil => rfl
    | cons c l ihl =>
      rw [List.foldl_cons, ihl]
      simp only [State.removeFault_kept]
      split <;> simp [ih]
@[simp] theorem State.clearFault_kept (s : State) (i : Nat) : (s.clearFault i).1.kept = s.kept := by
  simp only [State.clearFault]
  split
  · rfl
  · split <;> simp [clearBelow_kept]

/-! ## Correlator -/

@[simp] theorem State.openWindow_kept (s : State) (i : Nat) : (s.openWindow i).kept = s.kept := by
  unfold State.openWindow
  split
  · rfl
  · rw [State.pacingReturn_kept, State.modDomain_kept]; intro d; rfl
@[simp] theorem State.extendWindow_kept (s : State) (i : Nat) : (s.extendWindow i).kept = s.kept := by
  unfold State.extendWindow
  apply State.modDomain_kept
  intro d; split <;> rfl
@[simp] theorem State.touchWindow_kept (s : State) (i : Nat) : (s.touchWindow i).kept = s.kept := by
  unfold State.touchWindow; split <;> simp
@[simp] theorem State.memberEvent_kept (s : State) (d : Nat) : (s.memberEvent d).kept = s.kept := by
  unfold State.memberEvent; split <;> simp
@[simp] theorem State.placeDark_kept (s : State) (d : Nat) : (s.placeDark d).1.kept = s.kept := by
  unfold State.placeDark; split <;> simp
@[simp] theorem State.goUp_kept (s : State) (i x : Nat) : (s.goUp i x).kept = s.kept := by
  unfold State.goUp
  split
  · simp
  · split <;> simp
@[simp] theorem State.individualOutcome_kept (s : State) (i : Nat) (l : Level) :
    (s.individualOutcome i l).kept = s.kept := by
  unfold State.individualOutcome; split <;> simp [overKeys_kept]
@[simp] theorem State.faultOutcome_kept (s : State) (i : Nat) (l : Level) (x : Nat) :
    (s.faultOutcome i l x).kept = s.kept := by
  unfold State.faultOutcome
  split <;> rw [State.goUp_kept, overKeys_kept] <;> intro k s <;> first | rfl | simp
@[simp] theorem State.recordDecision_kept (s : State) (i : Nat) (k : Option FaultKind) :
    (s.recordDecision i k).1.kept = s.kept := by
  unfold State.recordDecision; split <;> simp
theorem State.closeWindow_kept {s s1 : State} {i : Nat} {r : CloseReport} (h : s.closeWindow i = some (s1, r)) :
    s1.kept = s.kept := by
  have hq : (s.modDomain i fun d => { d with window := .quiet }).kept = s.kept :=
    State.modDomain_kept _ _ _ fun _ => rfl
  simp only [State.closeWindow] at h
  split at h
  · cases h
  · split at h
    · cases h
    · cases h
    · split at h <;>
      · simp only [Option.some.injEq, Prod.mk.injEq] at h
        rw [← h.1]; simp [hq]
@[simp] theorem State.dropWindow_kept (s : State) (i : Nat) : (s.dropWindow i).kept = s.kept := by
  unfold State.dropWindow
  apply State.modDomain_kept
  intro d; split <;> rfl
@[simp] theorem State.loseSplitter_kept (s : State) (y i : Nat) : (s.loseSplitter y i).kept = s.kept := by
  unfold State.loseSplitter; split <;> simp [overKeys_kept]
@[simp] theorem State.loseSegment_kept (s : State) (y i : Nat) : (s.loseSegment y i).kept = s.kept := by
  simp [State.loseSegment, overKeys_kept]
@[simp] theorem State.feederLoss_kept (s : State) (i : Nat) : (s.feederLoss i).kept = s.kept := by
  simp only [State.feederLoss]
  split
  · simp
  · split
    · rfl
    · split
      · simp
      · rw [State.offerOpened_kept, overKeys_kept, overKeys_kept]
        · simp
        · intro k s; simp
        · intro k s; rfl

/-! ## Terminal state machine and learned table -/

@[simp] theorem State.offerWatch_kept (s : State) (a : Nat) (k : WatchKind) (u : Uptime) :
    (s.offerWatch a k u).kept = s.kept := by
  unfold State.offerWatch
  split
  · rfl
  · split <;> simp
@[simp] theorem State.offerRestored_kept (s : State) (a : Nat) (t : Terminal) (p : RestorePath) :
    (s.offerRestored a t p).kept = s.kept := by unfold State.offerRestored; split <;> simp
@[simp] theorem State.countDuplicate_kept (s : State) : s.countDuplicate.kept = s.kept := rfl
@[simp] theorem State.countLateGasp_kept (s : State) : s.countLateGasp.kept = s.kept := rfl
@[simp] theorem State.countTransient_kept (s : State) : s.countTransient.kept = s.kept := rfl
@[simp] theorem State.countAbsorbed_kept (s : State) : s.countAbsorbed.kept = s.kept := rfl
@[simp] theorem State.takeGasp_kept (s : State) (a : Nat) (t : Terminal) (u : Uptime) :
    (s.takeGasp a t u).kept = s.kept := by
  unfold State.takeGasp
  split <;> (try simp) <;> (apply State.modTerm_kept; intro t; rfl)
@[simp] theorem State.darkFrom_kept (s : State) (a : Nat) (t : Terminal) (g : Bool) (u : Uptime) :
    (s.darkFrom a t g u).kept = s.kept := by
  simp only [State.darkFrom]
  split
  · rw [State.modTerm_kept]
    · simp
    · intro t; simp
  · rw [State.foldTerm_kept, State.modTerm_kept]
    · simp
    · intro t; simp
@[simp] theorem State.flap_kept (s : State) (a : Nat) (t : Terminal) (u : Uptime) :
    (s.flap a t u).kept = s.kept := by
  rw [State.flap, State.offerWatch_kept, State.modTerm_kept]; intro t; rfl
@[simp] theorem State.takeDark_kept (s : State) (a : Nat) (t : Terminal) (u : Uptime) :
    (s.takeDark a t u).kept = s.kept := by unfold State.takeDark; split <;> simp
@[simp] theorem State.takeLight_kept (s : State) (a : Nat) (t : Terminal) (u : Uptime) :
    (s.takeLight a t u).kept = s.kept := by
  unfold State.takeLight
  split <;> (try simp) <;> (apply State.modTerm_kept; intro t; rfl)
@[simp] theorem State.takeUnprovisioned_kept (s : State) (f a : Nat) (r : Bool) (k : EventKind) (u : Uptime) :
    (s.takeUnprovisioned f a r k u).kept = s.kept := by
  simp only [State.takeUnprovisioned]
  split
  · split <;> simp
  · split <;> simp
@[simp] theorem State.ageLearned_kept (s : State) : s.ageLearned.kept = s.kept := rfl
@[simp] theorem State.takeEvent_kept (s : State) (f : Nat) (r : Bool) (k : EventKind) (p : Nat) (u : Uptime) :
    (s.takeEvent f r k p u).kept = s.kept := by
  simp only [State.takeEvent]
  split
  · simp
  · split
    · simp
    · split <;> simp
@[simp] theorem State.restoreTerm_kept (s : State) (a : Nat) (t : Terminal) (p : RestorePath) :
    (s.restoreTerm a t p).kept = s.kept := by
  simp only [State.restoreTerm]
  split <;> simp <;> (apply State.modTerm_kept; intro t; rfl)
@[simp] theorem State.gaspHoldExpires_kept (s : State) (a : Nat) : (s.gaspHoldExpires a).kept = s.kept := by
  unfold State.gaspHoldExpires
  split
  · rfl
  · split
    · rw [State.offerWatch_kept, State.modTerm_kept]; intro t; rfl
    · rfl
@[simp] theorem State.holdDownExpires_kept (s : State) (a : Nat) : (s.holdDownExpires a).kept = s.kept := by
  unfold State.holdDownExpires
  split
  · rfl
  · split <;> simp
@[simp] theorem State.noContactTerm_kept (s : State) (a : Nat) : (s.noContactTerm a).kept = s.kept := by
  apply State.modTerm_kept
  intro t; dsimp only; split <;> rfl
@[simp] theorem State.noContactFloor_kept (s : State) (f : Nat) : (s.noContactFloor f).kept = s.kept := by
  simp [State.noContactFloor, overKeys_kept]
@[simp] theorem State.powerFold_kept (s : State) (x a : Nat) : (s.powerFold x a).kept = s.kept := by
  rw [State.powerFold, State.foldTerm_kept, State.modTerm_kept]; intro t; rfl
@[simp] theorem State.floorPowerTerm_kept (s : State) (x a : Nat) : (s.floorPowerTerm x a).kept = s.kept := by
  have h : (s.modTerm a fun t => { t with contact := false }).kept = s.kept := State.modTerm_kept _ _ _ fun _ => rfl
  simp only [State.floorPowerTerm]
  split
  · exact h
  · split
    · rw [State.powerFold_kept, h]
    · rw [State.powerFold_kept, h]
    · split
      · rw [State.modTerm_kept, h]; intro t; rfl
      · rw [State.powerFold_kept, h]
    · rw [State.modTerm_kept, h]; intro t; rfl
    all_goals exact h
@[simp] theorem State.floorPowerFloor_kept (s : State) (x f : Nat) : (s.floorPowerFloor x f).kept = s.kept := by
  simp [State.floorPowerFloor, overKeys_kept]
@[simp] theorem State.baselineLit_kept (s : State) (a : Nat) (t : Terminal) : (s.baselineLit a t).1.kept = s.kept := by
  unfold State.baselineLit
  split
  · apply State.modTerm_kept; intro t; rfl
  · split
    · simp
    · apply State.modTerm_kept; intro t; rfl
  · rfl
@[simp] theorem State.baselineDark_kept (s : State) (a : Nat) (t : Terminal) :
    (s.baselineDark a t).1.kept = s.kept := by
  have h : (s.modTerm a fun t => { (t.enter .offDark).stamp s.now with reported := false }).kept = s.kept :=
    State.modTerm_kept _ _ _ fun _ => rfl
  simp only [State.baselineDark]
  split
  · exact h
  · split
    · exact h
    · exact State.modTerm_kept _ _ _ fun _ => rfl
    · exact State.modTerm_kept _ _ _ fun _ => rfl
    all_goals simp
  · rfl
@[simp] theorem State.baselineTerm_kept (s : State) (m : BitVec 16) (a : Nat) :
    (s.baselineTerm m a).1.kept = s.kept := by
  unfold State.baselineTerm
  split
  · rfl
  · split <;> simp
@[simp] theorem State.baselineFloor_kept (s : State) (f : Nat) (m : BitVec 16) :
    (s.baselineFloor f m).kept = s.kept := by
  have fold : ∀ (l : List Nat) (acc : State × BaselineCounts),
      (l.foldl (fun acc a => ((acc.1.baselineTerm m a).1, acc.2.add (acc.1.baselineTerm m a).2)) acc).1.kept =
        acc.1.kept := by
    intro l
    induction l with
    | nil => intro acc; rfl
    | cons a l ih => intro acc; rw [List.foldl_cons, ih]; simp
  simp only [State.baselineFloor, State.offer_kept]
  rw [fold]
  apply overKeys_kept
  intro k s
  apply State.modTerm_kept; intro t; rfl

/-! ## Optical monitor -/

@[simp] theorem State.offerPower_kept (s : State) (j : PowerSubject) (d : Option Nat) (a b : Point) :
    (s.offerPower j d a b).kept = s.kept := by unfold State.offerPower; split <;> simp
@[simp] theorem State.tapReading_kept (s : State) (f : Nat) (p : Tap) (r : Word16) :
    (s.tapReading f p r).kept = s.kept := by
  simp only [State.tapReading]
  split
  · rfl
  · rw [State.offerPower_kept]; rfl
@[simp] theorem State.tapTrailer_kept (s : State) (f : Nat) (a b : Word16) :
    (s.tapTrailer f a b).kept = s.kept := by simp [State.tapTrailer]
@[simp] theorem State.feederTold_kept (s : State) (d : Option Nat) (a b : LevelState) :
    (s.feederTold d a b).kept = s.kept := by
  unfold State.feederTold
  split
  · rfl
  · split
    · simp
    · split
      · split <;> simp
      · rfl
@[simp] theorem State.feederSample_kept (s : State) (k : Nat) (c : BitVec 12) :
    (s.feederSample k c).kept = s.kept := by
  simp only [State.feederSample, State.feederTold_kept, State.offerPower_kept]; rfl

/-! ## Scheduler and riser -/

@[simp] theorem State.tellAttention_kept (s : State) : s.tellAttention.kept = s.kept := by
  simp only [State.tellAttention]; split <;> simp
@[simp] theorem State.tellMark_kept (s : State) : s.tellMark.kept = s.kept := by
  simp only [State.tellMark]; split <;> simp
@[simp] theorem State.endTxn_kept (s : State) (m : Bool) : (s.endTxn m).kept = s.kept := by simp [State.endTxn]
@[simp] theorem State.count_kept (s : State) (f : Nat) (g : UnitCounters → UnitCounters) :
    (s.count f g).kept = s.kept := by simp [State.count]
@[simp] theorem State.sendCommand_kept (s : State) (t : Txn) (h : Hearing) : (s.sendCommand t h).kept = s.kept := by
  simp only [State.sendCommand]
  split
  · rfl
  · split
    · rfl
    · rw [State.count_kept]; rfl
@[simp] theorem State.sendIf_kept (s : State) (k : Order → Bool) (h : Hearing) : (s.sendIf k h).kept = s.kept := by
  unfold State.sendIf
  split
  · rfl
  · split <;> simp
@[simp] theorem State.sendBusy_kept (s : State) (h : Hearing) : (s.sendBusy h).kept = s.kept := by
  unfold State.sendBusy
  split
  · rfl
  · split <;> simp
@[simp] theorem State.silenceOutcome_kept (s : State) (f : Nat) (g : Bool) :
    (s.silenceOutcome f g).kept = s.kept := by
  simp only [State.silenceOutcome]
  split
  · simp
  · split <;> simp
  · simp
  · split
    · simp
    · split <;> simp
@[simp] theorem State.enterSilent_kept (s : State) (f : Nat) (u : FloorUnit) (n : Nat) :
    (s.enterSilent f u n).kept = s.kept := by simp [State.enterSilent]
@[simp] theorem State.missed_kept (s : State) (f : Nat) : (s.missed f).kept = s.kept := by
  simp only [State.missed]
  split
  · rfl
  · split
    · simp
    · split <;> simp
    · split <;> simp
    · split <;> simp
@[simp] theorem State.attemptFailed_kept (s : State) (t : Txn) (f : Nat) (w : Option ReplyFailure) :
    (s.attemptFailed t f w).kept = s.kept := by
  simp only [State.attemptFailed]
  split
  · split <;> simp
  · split <;> simp
@[simp] theorem State.contactGood_kept (s : State) (f : Nat) (u : FloorUnit) :
    (s.contactGood f u).kept = s.kept := by
  simp only [State.contactGood]
  split
  · simp
  · simp
  · split <;> simp
  · split <;> simp
@[simp] theorem State.handRecord_kept (s : State) (f : Nat) (r : WireRecord) : (s.handRecord f r).kept = s.kept := by
  simp only [State.handRecord]
  split
  · simp
  · split <;> simp
theorem handRecords_kept (f : Nat) (l : List WireRecord) (s : State) :
    (l.foldl (fun s r => s.handRecord f r) s).kept = s.kept := by
  induction l generalizing s with
  | nil => rfl
  | cons r l ih => rw [List.foldl_cons, ih, State.handRecord_kept]
@[simp] theorem State.takeEvents_kept (s : State) (f : Nat) (q m : Bool) (l : List WireRecord) (a b : Word16) :
    (s.takeEvents f q m l a b).kept = s.kept := by
  simp only [State.takeEvents]
  split <;> split <;> simp [handRecords_kept]
@[simp] theorem State.takeMap_kept (s : State) (f : Nat) (c : Contact) (m : BitVec 16) (h : Option Bool)
    (a b : Word16) : (s.takeMap f c m h a b).kept = s.kept := by
  simp only [State.takeMap]; split <;> simp
@[simp] theorem State.accept_kept (s : State) (f : Nat) (u : FloorUnit) (q : Bool) (g : GoodReply) :
    (s.accept f u q g).kept = s.kept := by
  simp only [State.accept]; split <;> simp
@[simp] theorem State.judgeReply_kept (s : State) (t : Txn) (f : Nat) (l : List RxChar) :
    (s.judgeReply t f l).kept = s.kept := by
  unfold State.judgeReply
  split
  · simp
  · split
    · simp
    · split <;> simp
@[simp] theorem State.endOnWire_kept (s : State) : s.endOnWire.kept = s.kept := rfl
@[simp] theorem State.windowExpires_kept (s : State) : s.windowExpires.kept = s.kept := by
  simp only [State.windowExpires]
  split
  · rfl
  · split
    · rfl
    · split
      · split <;> simp
      · rfl
@[simp] theorem State.abandonReply_kept (s : State) : s.abandonReply.kept = s.kept := by
  simp only [State.abandonReply]
  split
  · rfl
  · split
    · rfl
    · split
      · split <;> simp
      · rfl
@[simp] theorem State.quietLine_kept (s : State) : s.quietLine.kept = s.kept := rfl
@[simp] theorem State.replyEnds_kept (s : State) (l : List RxChar) : (s.replyEnds l).kept = s.kept := by
  simp only [State.replyEnds]
  split
  · rfl
  · split
    · rfl
    · split
      · split <;> simp
      · rfl
@[simp] theorem State.riserCharacter_kept (s : State) : s.riserCharacter.kept = s.kept := rfl

/-! ## Expiries, samples and the FMUs -/

@[simp] theorem State.attention_kept (s : State) : s.attention.kept = s.kept := by
  unfold State.attention; split <;> simp
@[simp] theorem State.gapExpires_kept (s : State) : s.gapExpires.kept = s.kept := by
  unfold State.gapExpires; split <;> rfl
@[simp] theorem State.stepExpires_kept (s : State) : s.stepExpires.kept = s.kept := by
  unfold State.stepExpires; split <;> rfl
@[simp] theorem State.agingExpires_kept (s : State) : s.agingExpires.kept = s.kept := by
  unfold State.agingExpires; split <;> simp
@[simp] theorem State.windowEnds_kept (s : State) (i : Nat) : (s.windowEnds i).kept = s.kept := by
  unfold State.windowEnds
  split
  · rfl
  · rfl
  · split
    · rfl
    · split
      · rename_i h; exact State.closeWindow_kept h
      · rfl
@[simp] theorem State.clearingExpires_kept (s : State) (i : Nat) : (s.clearingExpires i).kept = s.kept := by
  unfold State.clearingExpires; split <;> simp
@[simp] theorem State.reminderExpires_kept (s : State) (i : Nat) : (s.reminderExpires i).kept = s.kept := by
  simp only [State.reminderExpires]
  split
  · rfl
  · split <;> simp
@[simp] theorem State.feederSamples_kept (s : State) (a b c d : BitVec 12) :
    (s.feederSamples a b c d).kept = s.kept := by simp [State.feederSamples]
@[simp] theorem State.fmuRecords_kept (s : State) (f : Nat) (k : EventKind) (p : Nat) :
    (s.fmuRecords f k p).kept = s.kept := rfl
@[simp] theorem State.fmuStarts_kept (s : State) (n f : Nat) (l : BitVec 16) :
    (s.fmuStarts n f l).kept = s.kept := rfl
theorem State.unlessHalted_kept (s : State) {f : State → State} (h : ∀ s, (f s).kept = s.kept) :
    (s.unlessHalted f).kept = s.kept := by unfold State.unlessHalted; split <;> simp [h]

/-! ## What equal `kept` gives -/

theorem State.latch_of_kept {s t : State} (h : t.kept = s.kept) : t.latch = s.latch :=
  (congrArg (fun x : State => x.latch) h :)
theorem State.settings_of_kept {s t : State} (h : t.kept = s.kept) : t.settings = s.settings :=
  (congrArg (fun x : State => x.settings) h :)
theorem State.store_of_kept {s t : State} (h : t.kept = s.kept) : t.store = s.store :=
  (congrArg (fun x : State => x.store) h :)
theorem State.link_of_kept {s t : State} (h : t.kept = s.kept) : t.link = s.link :=
  (congrArg (fun x : State => x.link) h :)
theorem State.clock_of_kept {s t : State} (h : t.kept = s.kept) : t.clock = s.clock :=
  (congrArg (fun x : State => x.clock) h :)
theorem State.pending_of_kept {s t : State} (h : t.kept = s.kept) : t.pending = s.pending :=
  (congrArg (fun x : State => x.pending) h :)
theorem State.halted_of_kept {s t : State} (h : t.kept = s.kept) : t.halted = s.halted :=
  (congrArg (fun x : State => x.halted) h :)
theorem State.floorMask_of_kept {s t : State} (h : t.kept = s.kept) : t.floorMask = s.floorMask :=
  (congrArg (fun x : State => x.floorMask) h :)
theorem State.enables_of_kept {s t : State} (h : t.kept = s.kept) : t.enables = s.enables :=
  (congrArg (fun x : State => x.enables) h :)
/-- The addresses of the static entries are kept. -/
theorem State.termKeys_of_kept {s t : State} (h : t.kept = s.kept) :
    t.terms.map Prod.fst = s.terms.map Prod.fst := by
  have := (congrArg (fun x : State => x.terms.map Prod.fst) h :)
  simpa [State.kept, List.map_map, Function.comp_def] using this
/-- The ids of the domain records are kept. -/
theorem State.domainKeys_of_kept {s t : State} (h : t.kept = s.kept) :
    t.domains.map Prod.fst = s.domains.map Prod.fst := by
  have := (congrArg (fun x : State => x.domains.map Prod.fst) h :)
  simpa [State.kept, List.map_map, Function.comp_def] using this
/-- The provisioned floors are kept. -/
theorem State.unitKeys_of_kept {s t : State} (h : t.kept = s.kept) :
    t.units.map Prod.fst = s.units.map Prod.fst := by
  have := (congrArg (fun x : State => x.units.map Prod.fst) h :)
  simpa [State.kept, List.map_map, Function.comp_def] using this

end Sys2Proof.Machine
end

