-- ==== Sys2Proof/Laws/Notices.lean ====
section
/-! SUPPORT. What an offer, and the return of the pacing level, leave alone; and what an offer does to the queue
of its own class and to the others; the account of a class queue, and the off time of an entry. -/

namespace Sys2Proof.Machine

@[simp] theorem State.offer_pending (s : State) (c : NoticeClass) (b : NoticeBody) : (s.offer c b).pending = s.pending := rfl
@[simp] theorem State.offer_clock (s : State) (c : NoticeClass) (b : NoticeBody) : (s.offer c b).clock = s.clock := rfl
@[simp] theorem State.offer_link (s : State) (c : NoticeClass) (b : NoticeBody) : (s.offer c b).link = s.link := rfl
@[simp] theorem State.offer_riser (s : State) (c : NoticeClass) (b : NoticeBody) : (s.offer c b).riser = s.riser := rfl
@[simp] theorem State.offer_sched (s : State) (c : NoticeClass) (b : NoticeBody) : (s.offer c b).sched = s.sched := rfl
@[simp] theorem State.offer_units (s : State) (c : NoticeClass) (b : NoticeBody) : (s.offer c b).units = s.units := rfl
@[simp] theorem State.offer_feeders (s : State) (c : NoticeClass) (b : NoticeBody) : (s.offer c b).feeders = s.feeders := rfl
@[simp] theorem State.offer_taps (s : State) (c : NoticeClass) (b : NoticeBody) : (s.offer c b).taps = s.taps := rfl
@[simp] theorem State.offer_terms (s : State) (c : NoticeClass) (b : NoticeBody) : (s.offer c b).terms = s.terms := rfl
@[simp] theorem State.offer_learned (s : State) (c : NoticeClass) (b : NoticeBody) : (s.offer c b).learned = s.learned := rfl
@[simp] theorem State.offer_tally (s : State) (c : NoticeClass) (b : NoticeBody) : (s.offer c b).tally = s.tally := rfl
@[simp] theorem State.offer_domains (s : State) (c : NoticeClass) (b : NoticeBody) : (s.offer c b).domains = s.domains := rfl
@[simp] theorem State.offer_faults (s : State) (c : NoticeClass) (b : NoticeBody) : (s.offer c b).faults = s.faults := rfl
@[simp] theorem State.offer_faultCtl (s : State) (c : NoticeClass) (b : NoticeBody) : (s.offer c b).faultCtl = s.faultCtl := rfl
@[simp] theorem State.offer_latch (s : State) (c : NoticeClass) (b : NoticeBody) : (s.offer c b).latch = s.latch := rfl
@[simp] theorem State.offer_floorMask (s : State) (c : NoticeClass) (b : NoticeBody) : (s.offer c b).floorMask = s.floorMask := rfl
@[simp] theorem State.offer_enables (s : State) (c : NoticeClass) (b : NoticeBody) : (s.offer c b).enables = s.enables := rfl
@[simp] theorem State.offer_settings (s : State) (c : NoticeClass) (b : NoticeBody) : (s.offer c b).settings = s.settings := rfl
@[simp] theorem State.offer_store (s : State) (c : NoticeClass) (b : NoticeBody) : (s.offer c b).store = s.store := rfl
@[simp] theorem State.offer_halted (s : State) (c : NoticeClass) (b : NoticeBody) : (s.offer c b).halted = s.halted := rfl
@[simp] theorem State.offer_fmus (s : State) (c : NoticeClass) (b : NoticeBody) : (s.offer c b).fmus = s.fmus := rfl

@[simp] theorem State.pacingReturn_pending (s : State) : s.pacingReturn.pending = s.pending := rfl
@[simp] theorem State.pacingReturn_clock (s : State) : s.pacingReturn.clock = s.clock := rfl
@[simp] theorem State.pacingReturn_link (s : State) : s.pacingReturn.link = s.link := rfl
@[simp] theorem State.pacingReturn_riser (s : State) : s.pacingReturn.riser = s.riser := rfl
@[simp] theorem State.pacingReturn_units (s : State) : s.pacingReturn.units = s.units := rfl
@[simp] theorem State.pacingReturn_feeders (s : State) : s.pacingReturn.feeders = s.feeders := rfl
@[simp] theorem State.pacingReturn_taps (s : State) : s.pacingReturn.taps = s.taps := rfl
@[simp] theorem State.pacingReturn_terms (s : State) : s.pacingReturn.terms = s.terms := rfl
@[simp] theorem State.pacingReturn_learned (s : State) : s.pacingReturn.learned = s.learned := rfl
@[simp] theorem State.pacingReturn_tally (s : State) : s.pacingReturn.tally = s.tally := rfl
@[simp] theorem State.pacingReturn_domains (s : State) : s.pacingReturn.domains = s.domains := rfl
@[simp] theorem State.pacingReturn_faults (s : State) : s.pacingReturn.faults = s.faults := rfl
@[simp] theorem State.pacingReturn_faultCtl (s : State) : s.pacingReturn.faultCtl = s.faultCtl := rfl
@[simp] theorem State.pacingReturn_latch (s : State) : s.pacingReturn.latch = s.latch := rfl
@[simp] theorem State.pacingReturn_floorMask (s : State) : s.pacingReturn.floorMask = s.floorMask := rfl
@[simp] theorem State.pacingReturn_enables (s : State) : s.pacingReturn.enables = s.enables := rfl
@[simp] theorem State.pacingReturn_settings (s : State) : s.pacingReturn.settings = s.settings := rfl
@[simp] theorem State.pacingReturn_store (s : State) : s.pacingReturn.store = s.store := rfl
@[simp] theorem State.pacingReturn_halted (s : State) : s.pacingReturn.halted = s.halted := rfl
@[simp] theorem State.pacingReturn_fmus (s : State) : s.pacingReturn.fmus = s.fmus := rfl
@[simp] theorem State.pacingReturn_notices (s : State) : s.pacingReturn.notices = s.notices := rfl

@[simp] theorem State.offer_term? (s : State) (c : NoticeClass) (b : NoticeBody) (a : Nat) :
    (s.offer c b).term? a = s.term? a := rfl
@[simp] theorem State.offer_fault? (s : State) (c : NoticeClass) (b : NoticeBody) (i : Nat) :
    (s.offer c b).fault? i = s.fault? i := rfl
@[simp] theorem State.offer_domain? (s : State) (c : NoticeClass) (b : NoticeBody) (i : Nat) :
    (s.offer c b).domain? i = s.domain? i := rfl
@[simp] theorem State.offer_unit? (s : State) (c : NoticeClass) (b : NoticeBody) (f : Nat) :
    (s.offer c b).unit? f = s.unit? f := rfl

@[simp] theorem NoticeQueues.get_mod_self (n : NoticeQueues) (c : NoticeClass) (f : ClassQueue → ClassQueue) :
    (n.mod c f).get c = f (n.get c) := by cases c <;> rfl

theorem NoticeQueues.get_mod_ne (n : NoticeQueues) {c d : NoticeClass} (f : ClassQueue → ClassQueue) (h : d ≠ c) :
    (n.mod c f).get d = n.get d := by
  cases c <;> cases d <;> first | rfl | exact absurd rfl h

@[simp] theorem NoticeQueues.get_maskFloor (n : NoticeQueues) (f : Nat) (c : NoticeClass) :
    (n.maskFloor f).get c = n.get c := by cases c <;> rfl

/-- An offer leaves the queues of the other classes as they are. -/
theorem State.offer_get_ne (s : State) {c d : NoticeClass} (b : NoticeBody) (h : d ≠ c) :
    (s.offer c b).notices.get d = s.notices.get d := by
  simp only [State.offer, State.modNotices]
  split
  · exact NoticeQueues.get_mod_ne _ _ h
  · split
    · rw [NoticeQueues.get_maskFloor]; exact NoticeQueues.get_mod_ne _ _ h
    · split <;> exact NoticeQueues.get_mod_ne _ _ h

/-- All that an offer can do to the queue of its class: masked, dropped, or queued at the tail (R160). -/
theorem State.offer_get_self (s : State) (c : NoticeClass) (b : NoticeBody) :
    (s.offer c b).notices.get c =
      if s.enables.on c = false ∨ (s.blockedFloor b).isSome = true then (s.notices.get c).maskOne
      else if c.capacity ≤ (s.notices.get c).queue.length then (s.notices.get c).dropOne
      else (s.notices.get c).join ⟨s.now, b⟩ := by
  simp only [State.offer, State.modNotices]
  cases h : s.enables.on c with
  | false => simp
  | true =>
    cases hb : s.blockedFloor b with
    | some f => simp
    | none =>
      simp only [Bool.not_true, Bool.false_eq_true, if_false, Option.isSome_none]
      split <;> simp_all

/-! ## The account of a class queue (R166) -/

theorem ClassQueue.accounted_maskOne {q : ClassQueue} (h : q.Accounted) : q.maskOne.Accounted := by
  simp only [ClassQueue.Accounted, ClassQueue.maskOne, inc16, inc32, satInc] at *
  omega

theorem ClassQueue.accounted_dropOne {q : ClassQueue} (h : q.Accounted) : q.dropOne.Accounted := by
  simp only [ClassQueue.Accounted, ClassQueue.dropOne, inc16, inc32, satInc] at *
  omega

theorem ClassQueue.accounted_join {q : ClassQueue} (n : Notice) (h : q.Accounted) : (q.join n).Accounted := by
  simp only [ClassQueue.Accounted, ClassQueue.join, inc32, satInc, List.length_append, List.length_singleton] at *
  omega

theorem ClassQueue.accounted_sentOne {q : ClassQueue} (h : q.Accounted) (hq : q.queue ≠ []) :
    q.sentOne.Accounted := by
  have := List.length_pos_of_ne_nil hq
  simp only [ClassQueue.Accounted, ClassQueue.sentOne, inc32, satInc, List.length_tail] at *
  omega

theorem ClassQueue.accounted_cutOne {q : ClassQueue} (h : q.Accounted) (hq : q.queue ≠ []) : q.cutOne.Accounted := by
  have := List.length_pos_of_ne_nil hq
  simp only [ClassQueue.Accounted, ClassQueue.cutOne, inc16, satInc, List.length_tail] at *
  omega

/-! ## The off time (R104, assumption 39) -/

theorem Terminal.offTime_restoring {t : Terminal} (h : t.state = .restoring) : t.offTime = t.offSince := if_pos h

theorem Terminal.offTime_of_ne {t : Terminal} (h : t.state ≠ .restoring) : t.offTime = t.lastChange := if_neg h

end Sys2Proof.Machine
end

