-- ==== Sys2Proof/Laws/Requests.lean ====
section
/-! SUPPORT. The way from a request row to its owning rule: arrival, the checks of the taking, and the answer. -/

namespace Sys2Proof.Machine

@[simp] theorem State.counted_terms (s : State) : s.counted.terms = s.terms := rfl
@[simp] theorem State.counted_domains (s : State) : s.counted.domains = s.domains := rfl
@[simp] theorem State.counted_units (s : State) : s.counted.units = s.units := rfl
@[simp] theorem State.counted_faults (s : State) : s.counted.faults = s.faults := rfl
@[simp] theorem State.counted_learned (s : State) : s.counted.learned = s.learned := rfl
@[simp] theorem State.counted_latch (s : State) : s.counted.latch = s.latch := rfl
@[simp] theorem State.counted_settings (s : State) : s.counted.settings = s.settings := rfl
@[simp] theorem State.counted_store (s : State) : s.counted.store = s.store := rfl
@[simp] theorem State.counted_halted (s : State) : s.counted.halted = s.halted := rfl
@[simp] theorem State.counted_sched (s : State) : s.counted.sched = s.sched := rfl
@[simp] theorem State.counted_clock (s : State) : s.counted.clock = s.clock := rfl
@[simp] theorem State.counted_buffer (s : State) : s.counted.link.buffer = s.link.buffer := rfl
@[simp] theorem State.counted_restart (s : State) : s.counted.link.restart = s.link.restart := rfl
@[simp] theorem State.counted_rate (s : State) : s.counted.link.rate = s.link.rate := rfl
@[simp] theorem State.counted_term? (s : State) (a : Nat) : s.counted.term? a = s.term? a := rfl
@[simp] theorem State.counted_domain? (s : State) (i : Nat) : s.counted.domain? i = s.domain? i := rfl
@[simp] theorem State.counted_unit? (s : State) (f : Nat) : s.counted.unit? f = s.unit? f := rfl
@[simp] theorem State.counted_fault? (s : State) (i : Nat) : s.counted.fault? i = s.fault? i := rfl

/-- A command whose meaning is a request taken at once and answered completes with that reply. -/
theorem completes_of_take {c : Instr} {s s1 : State} {tag : Byte} {r : Request} {reply : Reply}
    (hc : exec c s = .next (s.request tag r)) (hl : s.Listens) (ht : s.counted.take r = (s1, some reply))
    (hb : s1.link.buffer = s.link.buffer) : Completes c s tag r reply s1 :=
  ⟨_, hc, s.request_answered tag r hl ht hb⟩

/-- A request that passes checks 1 to 4 is carried out by its owning rule (R174). -/
theorem State.take_of_gate {s : State} {r : Request} (h : s.gate r = none) : s.take r = s.carryOut r := by
  simp [State.take, h]

/-- Outside HALTED and outside a save, a request of a right form passes checks 1 to 4 (R174). -/
theorem State.gate_of_serves {s : State} {r : Request} (h : s.halted = false) (hs : s.store.saving = none)
    (hf : formFailure r = none) (hc : choiceFailure r = none) : s.gate r = none := by
  simp [State.gate, h, hs, hf, hc]

/-- Outside HALTED, a request of a right form that a save does not refuse passes checks 1 to 4 (R174). -/
theorem State.gate_of_free {s : State} {r : Request} (h : s.halted = false) (hk : refusedInSave r.kind = false)
    (hf : formFailure r = none) (hc : choiceFailure r = none) : s.gate r = none := by
  simp [State.gate, h, hk, hf, hc]

end Sys2Proof.Machine
end

