-- ==== Sys2Proof/Tests/Slice0.lean ====
section
/-! SUPPORT. Own tests: the checks of WellFormed, check values and words of the spec, the spec's worked examples,
and for every statement with hypotheses a state and operands that meet them. -/

namespace Sys2Proof.Tests

set_option Elab.async false

open Sys2Proof Sys2Proof.Machine

/-! ## WellFormed: what each check refuses -/

theorem test_settingsWrite_over_one_frame : (Instr.settingsWrite 0 (List.replicate 50 (1, 0))).wf = false := by
  decide +kernel
theorem test_bulkUpdate_latch_with_bitmap : (Instr.bulkUpdate 0 0 2 0 0 0 0 [1]).wf = false := by decide +kernel
theorem test_bulkUpdate_latch_with_floors : (Instr.bulkUpdate 0 0 2 0 0 1 1 []).wf = false := by decide +kernel
theorem test_bulkUpdate_over_one_frame :
    (Instr.bulkUpdate 0 1 2 0 0 0 0 (List.replicate 243 0)).wf = false := by decide +kernel
theorem test_unknownKind_of_known_kind : (Instr.unknownKindRequest 26 0 []).wf = false := by decide +kernel
theorem test_unknownKind_over_one_frame : (Instr.unknownKindRequest 27 0 (List.replicate 249 0)).wf = false := by
  decide +kernel
theorem test_hostFrame_cut_short : (Instr.hostFrameReceived [2, 1, 7, 0xE1]).wf = false := by decide +kernel
theorem test_riserReply_empty : (Instr.riserReplyReceived []).wf = false := by decide +kernel

/-! ## Check values (R25, R171, R184), computed by hand over "123456789" -/

def digits : List Byte := [0x31, 0x32, 0x33, 0x34, 0x35, 0x36, 0x37, 0x38, 0x39]

theorem test_crc8 : crc8 digits = 0xF4#8 := by decide +kernel
theorem test_crc16 : crc16 digits = 0x29B1#16 := by decide +kernel
theorem test_crc32 : crc32 digits = 0xFC891918#32 := by decide +kernel

/-! ## Words written out from the wire layouts (10.5) -/

/-- IDENTIFY, tag 7: length 2, kind 1, tag, CRC-16 0xE12A (R171). -/
theorem test_identify_frame : requestFrame 7 .identify = [0x02, 0x01, 0x07, 0xE1, 0x2A] := by decide +kernel
/-- TERMINAL_READ of address 322: its two bytes high byte first (R182). -/
theorem test_terminalRead_frame : requestFrame 9 (.terminalRead 322) = [4, 4, 9, 0x01, 0x42, 0x97, 0xDD] := by
  decide +kernel
theorem test_terminalWrite_word :
    parseRequest 2 [0x01, 0x42, 0x05, 0x02, 0x01, 0x12, 0x34, 0x00, 0x01] =
      .terminalWrite 0x142 5 2 true 0x1234 false true := by decide +kernel
/-- An absent option's value bytes are sent all the same (R182). -/
theorem test_domainWrite_word :
    parseRequest 6 [0x03, 0x00, 0x01, 0x02, 0x00, 0x00, 0x01, 0x0C, 0x01] =
      .domainWrite 3 0 (some 2) none (some (12, 1)) := by decide +kernel
/-- Setting 27 at −300: signed, four bytes (R182). -/
theorem test_settingsWrite_word :
    parseRequest 12 [0x01, 27, 0xFF, 0xFF, 0xFE, 0xD4] = .settingsWrite [(27, 0xFFFFFED4)] := by decide +kernel
theorem test_match_word :
    parseRequest 14 [12, 13, 0x80, 0x00, 0x01, 0x01, 0xFF, 0x03] =
      .matchTerminals 12 13 0x80 0 (some 0x1FF) 3 := by decide +kernel
theorem test_bulkUpdate_word : parseRequest 15 [1, 2, 1, 0, 13, 13, 0, 7] = .bulkUpdate 1 2 1 0 13 13 [0, 7] := by
  decide +kernel
theorem test_short_body : parseRequest 4 [1] = .badLength 4 := by decide +kernel
theorem test_kind_27 : parseRequest 27 [] = .unknownKind 27 [] := by decide +kernel
/-- POLL of floor 12 with sequence bit 1; CLEAR to group 1; broadcast CLEAR (R25, R182). -/
theorem test_riser_commands :
    (Order.poll 12 true).frame = [0x0C, 0x81, 0x72] ∧ (Order.clear (.group 1)).frame = [0x88, 0x03, 0x17] ∧
      (Order.clear .all).frame = [0xC0, 0x03, 0xE4] := by decide +kernel
/-- An event reply of floor 12, bit 0: DARK at port 5, age 30 ms; tap A no reading, tap B −210 (R182). -/
theorem test_event_reply_word :
    eventReply 12 false false [⟨.dark, 5, 30⟩] 0x8000 0xFF2E =
      [0x0C, 0x10, 0x01, 0x25, 0x00, 0x1E, 0x80, 0x00, 0xFF, 0x2E, 0x3F] := by decide +kernel
/-- A map reply of floor 2: port 0 lit, no held reply (R182). -/
theorem test_map_reply_word :
    mapReply 2 1 none 0x8000 0x8000 = [0x02, 0x22, 0x00, 0x01, 0x80, 0x00, 0x80, 0x00, 0xDB] := by decide +kernel
/-- No row of the table gives bits. -/
theorem test_no_table_word : decodeTableWord 8 1 = none := rfl

/-! ## The spec's tables and examples -/

/-- The smoothing tables of 4.4. -/
theorem test_smoothing :
    smoothStep 2 (-180) (-200) = -185 ∧ smoothStep 2 (-185) (-186) = -186 ∧ smoothStep 2 (-186) (-150) = -177 ∧
      smoothStep 3 (-180) (-600) = -232 ∧ smoothStep 4 (-180) (-600) = -206 ∧ smoothStep 0 (-180) (-600) = -600 := by
  decide +kernel
/-- Code 2267 is −175 with no calibration, and code 0 is −600 (worked example of a feeder cut, 4). -/
theorem test_conversion : convertCode 2267 0 = -175 ∧ convertCode 0 0 = -600 := by decide +kernel
/-- The first and second worked cases at a splitter close (6): M 12, N_d 9, N_g 2; then N_d 1, N_g 6. -/
theorem test_decision :
    sharesOf 12 9 2 = some (192, 42) ∧ decideByShares defaultSettings .splitter 12 9 2 = (.fibreCut, 4) ∧
      decideByShares defaultSettings .splitter 12 1 6 = (.powerCut, 5) := by decide +kernel
/-- The table of R132. -/
theorem test_fault_ids :
    freeFaultId [21, 22] 32 40 = 40 ∧ freeFaultId [] 32 65535 = 65535 ∧ freeFaultId [65535, 1, 2] 32 65534 = 65534 ∧
      freeFaultId [65535, 1, 2] 32 65535 = 3 ∧ nextFaultId 65535 = 1 := by decide +kernel
/-- R111: later is modulo 2^32. -/
theorem test_later_wraps : later 5 0xFFFFFFFF = true ∧ later 0xFFFFFFFF 5 = false ∧ later 7 7 = false := by
  decide +kernel

/-- A static entry of a domain. -/
def term (domain : Nat) (state : TState) (lit : Bool) : Terminal :=
  { newTerminal ⟨domain, .minor, false, 0, false, false⟩ with state := state, lit := lit, contact := true }

/-- The terminals of the worked example of chapter 8. -/
def example8 : State :=
  { State.reset with
    domains := [(3, newDomain ⟨.splitter, none, none, none⟩)]
    units := [(12, newUnit), (13, newUnit)]
    terms := [(192, term 3 .lit true), (193, term 3 .offDark false),
      (194, { term 3 .offDark false with reported := true }), (195, { term 3 .offDark false with link := some 17 }),
      (196, term 3 .heldDark false), (197, { term 3 .lit true with prov := ⟨3, .minor, false, 0, true, false⟩ }),
      (208, { term 3 .offPower false with
        prov := ⟨3, .major, false, 0, true, false⟩, lastCause := some .power }), (209, term 3 .lit true)] }

/-- Requests 1 and 2 of the worked example of chapter 8. -/
theorem test_match_example :
    (example8.matchRequest 12 13 0x80 0 none 0).1.latch = [193, 194, 195, 196, 208] ∧
      (example8.matchRequest 12 13 0x80 0 none 0).2 =
        .ok (.matched 12 13 5 [0x00, 0x1E, 0x00, 0x01] 5) ∧
      ((example8.matchRequest 12 13 0x80 0 none 0).1.matchRequest 12 12 0x18 0 none 1).2 =
        .ok (.matched 12 12 4 [0x00, 0x12] 2) := by decide +kernel
/-- Request 4 of the worked example of chapter 8. -/
theorem test_bulk_example :
    (example8.bulkUpdate 1 0x22 1 0 13 13 [0x00, 0x07]).2 = .ok (.bulk 3 2 1 1 4 1) ∧
      ((example8.bulkUpdate 1 0x22 1 0 13 13 [0x00, 0x07]).1.term? 208).map Terminal.reported = some true := by
  decide +kernel

/-! ## A small site, for witnesses and single steps -/

/-- Two splitters under a segment under a feeder, one window open and one splitter decided, with terminals in
several states on floor 2. -/
def site : State :=
  { State.reset with
    domains := [(0, newDomain ⟨.feeder, none, some 0, none⟩), (1, newDomain ⟨.segment, some 0, none, none⟩),
      (2, ⟨⟨.splitter, some 1, none, some (2, .a)⟩, .open 0 300 1200⟩), (3, newDomain ⟨.splitter, some 1, none, none⟩),
      (4, ⟨⟨.splitter, some 1, none, none⟩, .decided 7⟩)]
    units := [(2, { newUnit with contact := .active, baseline := false, seq := some false }), (3, newUnit)]
    terms := [(32, term 2 .lit true), (33, { term 2 .heldDark false with lastCause := some .dark }),
      (34, { term 4 .offDark false with link := some 7 }),
      (36, { term 4 .restoring true with link := some 7, prior := some .offDark, holdDown := some 0, offSince := some 5 }),
      (37, { term 2 .gasped true with gasp := true, gaspHold := some 0 })]
    learned := [(48, ⟨3, 0, .dark, 0, true⟩)]
    faults := [(7, { newFault .fibreCut 4 0 with
      state := .clearing, affected := 2, off := 2, announced := true, clearing := some 0, reminder := some 0 })]
    faultCtl := ⟨8, 0, false⟩
    latch := [32, 34]
    sched := { newSched 500 with windowOpen := true, step := none, lastPolled := some 2 }
    fmus := [(5, { newFmu 2 1 with queue := [⟨.dark, 0, 12⟩] })] }

/-- The site with a transaction in progress. -/
def onBus (o : Order) (phase : Phase) (elapsed : Nat) (quiet : Bool) : State :=
  site.modRiser fun r => { r with txn := some ⟨o, 1, phase, elapsed, false⟩, quiet := quiet }

/-- The site with a CONFIG_SAVE running. -/
def saving : State := { site with store := ⟨.cut, some (site.image 1), 0, false⟩ }

/-- The site with requests in the buffer. -/
def buffered (b : List Entry) : State := site.modLink fun l => { l with buffer := b }

/-- A reply's characters as an FMU sends them. -/
def chars (bytes : List Byte) : List RxChar := bytes.map sentChar

/-- Record 9 of splitter 2 linked below record 8 of segment 1, and that below `top`, the record of feeder 0 where it is
given, with `off` terminals of its own; record 9 has one terminal, in RESTORING. -/
def tree (top : Option Nat) (off : Nat) : State :=
  { State.reset with
    domains := [(0, ⟨⟨.feeder, none, some 0, none⟩, if top.isSome then .decided 7 else .quiet⟩),
      (1, ⟨⟨.segment, some 0, none, none⟩, .decided 8⟩), (2, ⟨⟨.splitter, some 1, none, none⟩, .decided 9⟩),
      (3, ⟨⟨.splitter, some 1, none, none⟩, .open 0 300 1200⟩)]
    units := [(2, newUnit)]
    terms := [(32, { term 2 .restoring true with
        link := some 9, prior := some .offDark, holdDown := some 0, offSince := some 5, lastChange := some 8 }),
      (33, { term 3 .heldDark false with lastCause := some .dark })] ++
      (if off = 0 then [] else [(34, { term 3 .offDark false with link := some 7 })])
    faults := (if top.isSome then [(7, { newFault .feederLoss 0 0 with announced := true, children := 1, off := off })]
      else []) ++
      [(8, { newFault .fibreCut 1 0 with announced := true, parent := top, children := 1, clearing := some 0 }),
        (9, { newFault .fibreCut 2 0 with parent := some 8, affected := 1, off := 1 })]
    faultCtl := ⟨10, 0, false⟩ }

/-- Three invariants of a state that stores no image, checked entry by entry. -/
theorem agrees_of_checks (s : State) (flash : s.store.flash = .erased) (saving : s.store.saving = none)
    (keys : Table.rising s.terms = true ∧ (∀ e ∈ s.terms, e.1 ≤ 1023) ∧ s.terms.length ≤ 512 ∧
      Table.rising s.domains = true ∧ (∀ e ∈ s.domains, e.1 ≤ 63) ∧ Table.rising s.units = true ∧
      (∀ e ∈ s.units, e.1 ≤ 63) ∧ risingAddrs s.latch = true ∧ (∀ a ∈ s.latch, Table.has s.terms a = true) ∧
      Table.distinct s.learned ∧ (∀ e ∈ s.learned, Table.has s.terms e.1 = false))
    (members : ∀ e ∈ s.terms, (s.domain? e.2.prov.domain).map (fun d => d.fields.level) = some .splitter ∧
      (s.unit? (floorOf e.1)).isSome = true)
    (parents : (s.domains.all fun e => e.2.fields.parent.all fun p =>
      decide ((s.domain? p).map (fun d => d.fields.level) = e.2.fields.level.up ∧ e.2.fields.level ≠ .feeder)) = true)
    (taps : (s.domains.all fun e => e.2.fields.tap.all fun x =>
      (s.unit? x.1).isSome && decide (e.2.fields.level = .splitter)) = true)
    (channels : ∀ e ∈ s.domains, e.2.fields.channel.isSome = true → e.2.fields.level = .feeder)
    (faults : Table.distinct s.faults ∧ ∀ e ∈ s.faults,
      e.2.off = Table.countWhere s.terms fun _ t => decide (t.link = some e.1) && decide (t.state ≠ .lit))
    (linked : (s.terms.all fun e => e.2.link.all fun x => (s.fault? x).any fun f => decide (f.kind ≠ .unitLost)) = true)
    (decided : (s.domains.all fun e => e.2.window.fault?.all fun x =>
      (s.fault? x).any fun f => f.kind.onDomain && decide (f.subject = e.1)) = true) :
    s.Keyed ∧ s.Linked ∧ s.FaultsAgree := by
  obtain ⟨k1, k2, k3, k4, k5, k6, k7, k8, k9, k10, k11⟩ := keys
  simp only [List.all_eq_true, Option.all_eq_true, Option.any_eq_true, decide_eq_true_eq, Bool.and_eq_true] at *
  have hs : ∀ p, s.store.every p := fun p => by simp [Store.every, flash, saving]
  exact ⟨⟨k1, k2, k3, k4, k5, k6, k7, k8, k9, k10, k11, hs _⟩,
    ⟨members, parents, fun e he x hx => taps e he x hx, channels, hs _⟩,
    ⟨faults.1, faults.2, linked, fun e he x hx => by
      obtain ⟨f, hf, hk⟩ := decided e he x (by rw [hx]; rfl)
      exact ⟨f, hf, hk⟩⟩⟩

/-- The links of a state, checked record by record. -/
theorem children_of_checks (s : State)
    (subject : ∀ e ∈ s.faults, e.2.kind.onDomain = true → s.windowOf e.2.subject = .decided e.1)
    (count : ∀ e ∈ s.faults, e.2.children = Table.countWhere s.faults fun _ f => decide (f.parent = some e.1))
    (parent : (s.faults.all fun e => e.2.parent.all fun p => (s.fault? p).any fun f =>
      e.2.kind.onDomain && f.kind.onDomain && (s.domain? e.2.subject).any fun d => (s.domain? f.subject).any fun o =>
        decide (d.fields.level.code < o.fields.level.code)) = true)
    (held : ∀ e ∈ s.terms, e.2.held = true → (s.windowOf e.2.prov.domain).isOpen = true) : s.ChildrenAgree := by
  simp only [List.all_eq_true, Option.all_eq_true, Option.any_eq_true, Bool.and_eq_true, decide_eq_true_eq] at parent
  refine ⟨subject, count, fun e he p hp => ?_, held⟩
  obtain ⟨f, hf, ⟨k1, k2⟩, d, hd, o, ho, h⟩ := parent e he p hp
  exact ⟨f, d, o, hf, k1, k2, hd, ho, h⟩

/-- Records linked three deep, a terminal held and one restoring: the premises of the invariants of the links, with a
command to step, that of the site with its record that has no parent, and that of reset. -/
theorem witness_links :
    ((tree (some 7) 1).Keyed ∧ (tree (some 7) 1).Linked ∧ (tree (some 7) 1).FaultsAgree) ∧
      (tree (some 7) 1).TermsAgree ∧ (tree (some 7) 1).ChildrenAgree ∧ site.ChildrenAgree ∧
      ∃ t, step { tree (some 7) 1 with pending := [.holdDownExpiry 32] } = .next t := by
  refine ⟨by apply agrees_of_checks <;> decide +kernel, ?_, by apply children_of_checks <;> decide +kernel,
    by apply children_of_checks <;> decide +kernel, ⟨_, rfl⟩⟩
  intro e he
  simp only [tree, List.cons_append, List.nil_append, List.mem_cons, List.not_mem_nil, or_false, reduceIte,
    Nat.one_ne_zero] at he
  rcases he with rfl | rfl | rfl <;> constructor <;> decide +kernel

/-- The site meets every invariant: the premises of the invariant statements, with a command to step. -/
theorem witness_invariants :
    site.Bounded ∧ site.Keyed ∧ site.SettingsOk ∧ site.Linked ∧ site.TermsAgree ∧ site.FaultsAgree ∧
      ∃ t, step { site with pending := [.holdDownExpiry 36] } = .next t := by
  have h : site.Keyed ∧ site.Linked ∧ site.FaultsAgree := by apply agrees_of_checks <;> decide +kernel
  refine ⟨?_, h.1, ⟨by decide +kernel, by simp [Store.every, site, State.reset]⟩, h.2.1, ?_, h.2.2, ⟨_, rfl⟩⟩
  · constructor
    case account => intro c; cases c <;> exact fun _ _ _ _ => rfl
    case onLine => exact fun _ _ h => nomatch h
    all_goals decide +kernel
  · intro e he
    simp only [site, List.mem_cons, List.not_mem_nil, or_false] at he
    rcases he with rfl | rfl | rfl | rfl | rfl <;> constructor <;> decide +kernel

/-! ## Witnesses: the queue, the wire, the taking -/

theorem witness_StepRunsFrontCommand :
    ({ site with pending := [.identify 1, .supplyFail] } : State).pending = .identify 1 :: [.supplyFail] := rfl
theorem witness_EmptyQueuePassesMillisecond :
    site.pending = [] ∧ site.halted = false ∧ site.clock.ms < 9 ∧
      ({ site with clock := ⟨0xFFFFFFFF, 9⟩ } : State).clock.ms = 9 ∧ ({ site with halted := true } : State).halted = true := by
  decide +kernel
theorem witness_RequestFieldsRoundTrip :
    (Request.settingsWrite (List.replicate 49 (33, 1))).wf = true ∧
      (Request.bulkUpdate 1 2 1 0 13 13 (List.replicate 242 0)).wf = true ∧
      (Request.bulkUpdate 0 2 1 0 0 0 []).wf = true ∧ (Request.unknownKind 0 []).wf = true ∧
      (Request.unknownKind 27 (List.replicate 248 0)).wf = true := by decide +kernel
theorem witness_HostFrameIsItsRequest :
    (Instr.terminalRead 7 322).request = some (7, .terminalRead 322) ∧ (Instr.terminalRead 7 322).wf = true ∧
      site.link.rx = none := by decide +kernel
theorem witness_ReceiverTakesBytes :
    site.link.rx = none ∧ ((1 : Byte).toNat < 2 ∧ 250 < (251 : Byte).toNat) ∧
      (site.modLink fun l => { l with rx := some ⟨[], 20⟩ }).link.rx = some ⟨[], 20⟩ ∧
      (site.modLink fun l => { l with rx := some ⟨[5, 1], 0⟩ }).link.rx = some ⟨[5, 1], 0⟩ ∧
      (2 ≤ (2 : Byte).toNat ∧ ([1, 7] : List Byte).length = (2 : Byte).toNat ∧
        split16 (crc16 [2, 1, 7]) ≠ [0xE1, 0x2B]) := by decide +kernel
theorem witness_FullBufferOverruns :
    4 ≤ (buffered (List.replicate 4 ⟨0, .settingsRead, .inHand⟩)).link.buffer.length ∧
      (Instr.identify 3).request = some (3, .identify) := by decide +kernel
theorem witness_RefusedAtTaking :
    (site.Listens ∧ Request.settingsRead ≠ .identify ∧ Request.settingsRead ≠ .softRestart ∧
      ({ site with halted := true } : State).Listens) ∧
      (saving.Listens ∧ saving.halted = false ∧ saving.store.saving.isSome = true ∧
        (Request.terminalRemove 1).kind.toNat ∈ [2, 3, 6, 7, 9, 10, 12, 23, 25] ∧
        Request.configSave.kind.toNat ∈ [2, 3, 6, 7, 9, 10, 12, 23, 25]) ∧
      ((Instr.unknownKindRequest 27 0 []).request = some (0, .unknownKind 27 []) ∧
        (Instr.unknownKindRequest 27 0 []).wf = true ∧ 26 < (Request.unknownKind 27 []).kind.toNat ∧
        (Request.unknownKind 0 []).kind.toNat < 1) := by decide +kernel
theorem witness_requests_served : site.Serves ∧ saving.Listens ∧ saving.halted = false := by decide +kernel
theorem witness_ReadsChangeNothing :
    site.Listens ∧ site.halted = false ∧ 1023 < (1024 : Word16).toNat ∧ 1 < (2 : Byte).toNat := by decide +kernel
theorem witness_CountersReadClearsFloor :
    (2 : Byte).toNat ≤ 63 ∧ (site.unit? 2).isSome = true ∧ site.unit? 63 = none ∧
      (63 < (64 : Byte).toNat ∧ (64 : Byte).toNat ≠ 255 ∧ 63 < (254 : Byte).toNat) ∧ (255 : Byte).toNat = 255 := by
  decide +kernel

/-! ## Witnesses: provisioning -/

theorem witness_TerminalWriteCreates :
    site.Serves ∧ offClassOf 1 = some .major ∧ (site.unit? (floorOf 47)).isSome = true ∧
      (site.domain? 3).map (fun d => d.fields.level) = some .splitter ∧ site.memberCount 3 < 32 ∧
      site.terms.length < 512 ∧ site.term? 47 = none := by decide +kernel
theorem witness_TerminalWriteReplaces :
    site.Serves ∧ offClassOf 2 = some .minor ∧ (site.unit? (floorOf 32)).isSome = true ∧
      (site.domain? 2).map (fun d => d.fields.level) = some .splitter ∧
      (site.domain? 3).map (fun d => d.fields.level) = some .splitter ∧
      site.term? 32 = some (term 2 .lit true) ∧ (term 2 .lit true).prov.domain = 2 ∧
      (term 2 .lit true).held = false ∧ (term 2 .lit true).folded = false ∧ site.memberCount 3 < 32 ∧
      ({ term 4 .offDark false with prov := ⟨2, .minor, false, 0, true, false⟩ } : Terminal).unmaskedTo false = true ∧
      (term 4 .offDark false).offUnreported = true := by
  decide +kernel
/-- A splitter with 32 members, and a table of 512 entries. -/
def full (domain n : Nat) : State :=
  { site with
    terms := (List.range n).map fun i => (i, term (if i < 32 then domain else 9) .lit true)
    units := site.units ++ [(63, newUnit)] }
/-- One failing check each, in the order of R3. -/
theorem witness_TerminalWriteRefusals :
    site.Serves ∧ 1023 < (1024 : Word16).toNat ∧ 63 < (64 : Byte).toNat ∧ ((3 : Byte).toNat ≠ 1 ∧ (3 : Byte).toNat ≠ 2) ∧
      (site.unit? (floorOf 64)).isNone = true ∧ site.domain? 9 = none ∧
      (site.domain? 1).map (fun d => decide (d.fields.level ≠ .splitter)) = some true ∧
      ((site.term? 33).map (fun e => decide (e.prov.domain ≠ 3) && e.held) = some true) ∧
      ((full 3 32).Serves ∧ (full 3 32).term? 1008 = none ∧ 32 ≤ (full 3 32).memberCount 3 ∧
        ((full 3 32).unit? (floorOf 1008)).isSome = true) ∧
      ((full 2 512).term? 1008 = none ∧ (full 2 512).memberCount 3 < 32 ∧ 512 ≤ (full 2 512).terms.length) := by
  decide +kernel
theorem witness_TerminalRemoveErases :
    (site.term? 32).map (fun e => e.held || e.folded) = some false ∧ 1023 < (1024 : Word16).toNat ∧
      site.term? 1023 = none ∧ (site.term? 33).map Terminal.held = some true ∧
      (site.term? 34).map Terminal.folded = some true := by decide +kernel
/-- A write that passes every check, and one failing check each, in the order of R17. -/
theorem witness_DomainWriteStores :
    (let d : DomainFields := ⟨.splitter, some 1, none, some (2, .b)⟩
     site.Serves ∧ (5 : Byte).toNat ≤ 63 ∧ d.level.code = (0 : Byte).toNat ∧ d.parent = (some (1 : Byte)).map BitVec.toNat ∧
       d.channel = (none : Option Byte).map BitVec.toNat ∧ site.domain? 5 = none ∧ d.parent ≠ some 5 ∧
       (site.domain? 1).map (fun o => o.fields.level.code) = some (d.level.code + 1) ∧ (site.unit? 2).isSome = true ∧
       (site.domains.any fun e => decide (e.1 ≠ 5 ∧ e.2.fields.tap = some (2, .b))) = false ∧
       (site.childDomains 1).length < 16) ∧
      (Level.feeder ≠ .splitter ∧ (some 2 : Option Nat) = some 2 ∧ site.domain? 63 = none ∧
        (site.domain? 0).map (fun o => decide (o.fields.level.code ≠ Level.splitter.code + 1)) = some true ∧
        (site.unit? 63).isNone = true ∧ 0 < site.memberCount 2 ∧
        (site.domain? 2).map (fun o => decide (o.fields.parent ≠ none ∧ o.window ≠ .quiet)) = some true ∧
        (site.domain? 4).map (fun o => o.window.fault?.isSome && decide (o.fields.channel ≠ some 1)) = some true ∧
        (site.domains.any fun e => decide (e.1 ≠ 3 ∧ e.2.fields.tap = some (2, .a))) = true ∧
        (let s := { site with domains := site.domains ++
            (List.range 16).map fun i => (40 + i, newDomain ⟨.splitter, some 1, none, none⟩) }
         s.Serves ∧ s.domain? 63 = none ∧ 16 ≤ (s.childDomains 1).length)) ∧
      (63 < (64 : Byte).toNat ∧ 2 < (3 : Byte).toNat ∧ 3 < (4 : Byte).toNat ∧ 1 < (2 : Byte).toNat) := by
  decide +kernel
theorem witness_DomainRemoveEmpties :
    (site.memberCount 3 = 0 ∧ site.childDomains 3 = [] ∧ (site.domain? 3).map Domain.window = some .quiet) ∧
      site.domain? 63 = none ∧ 0 < site.memberCount 2 ∧ site.childDomains 1 ≠ [] ∧
      (site.domain? 4).map Domain.window = some (.decided 7) := by decide +kernel
theorem witness_FloorUnitWriteProvisions :
    site.Serves ∧ site.unit? 63 = none ∧ (site.unit? 2).isSome = true ∧ 63 < (64 : Byte).toNat ∧
      (onBus (.poll 2 false) .toSend 0 false).Serves ∧ (onBus (.poll 2 false) .toSend 0 false).riser.txn.isSome = true := by
  decide +kernel
theorem witness_FloorUnitRemoveErases :
    ((site.unit? 3).isSome = true ∧ site.staticCount 3 = 0 ∧ site.tapLink 3 .a = none ∧ site.tapLink 3 .b = none ∧
      site.faultOn .unitLost 3 = none ∧ site.faultOn .floorPower 3 = none) ∧
      (0 < site.staticCount 2 ∧ site.tapLink 2 .a ≠ none) ∧ site.unit? 63 = none ∧
      ((onBus (.status 3) .sent 2 false).Serves ∧
        (onBus (.status 3) .sent 2 false).riser.txn = some ⟨.status 3, 1, .sent, 2, false⟩ ∧
        (Order.status 3).floor? = some (3 : Byte).toNat ∧ (Order.poll 2 false).floor? ≠ some (3 : Byte).toNat) := by
  decide +kernel
theorem witness_SettingsWriteApplies :
    (([(33, 1), (27, 0xFFFFFED4), (1, 5)] : List (Byte × Word32)).all fun e =>
      decide (1 ≤ e.1.toNat ∧ e.1.toNat ≤ 33 ∧ (e.1.toNat = 33 → e.2.toInt = 0 ∨ e.2.toInt = 1))) = true ∧
      (((33, 2) : Byte × Word32).1.toNat = 33 ∧ (2 : Word32).toInt ≠ 0 ∧ (2 : Word32).toInt ≠ 1) ∧
      33 < (List.replicate 34 (1, 0) : List (Byte × Word32)).length ∧
      (site.Serves ∧ site.sched.windowOpen = decide (0 < site.openCount) ∧
        (site.modLink fun l => { l with tx := some (.overflow .info 1 1 0) }).Serves ∧ (1 : Word32).toInt = 1 ∧
        (0 : Word32).toInt = 0) := by decide +kernel

/-! ## Witnesses: queries and faults -/

theorem witness_MatchCombinesLatch :
    site.Listens ∧ site.halted = false ∧ (0 : Byte).toNat ≤ (63 : Byte).toNat ∧ (63 : Byte).toNat ≤ 63 ∧
      (511 : Word16).toNat < 512 ∧ 512 ≤ (512 : Word16).toNat ∧ (3 : Byte).toNat ≤ 3 ∧ 3 < (4 : Byte).toNat ∧
      Table.rising site.terms = true := by decide +kernel
theorem witness_BulkUpdateWritesSelection :
    bulkOpOf 3 = some .copy ∧ risingAddrs site.latch = true ∧
      ([0x00, 0x07] : List Byte).length = 2 * ((63 : Byte).toNat + 1 - (63 : Byte).toNat) ∧
      ([0x00] : List Byte).length ≠ 2 * ((63 : Byte).toNat + 1 - (63 : Byte).toNat) ∧ 1 < (2 : Byte).toNat ∧
      site.Listens ∧ site.halted = false ∧ (bulkOpOf 0).isSome = true ∧ 63 < (64 : Byte).toNat := by
  decide +kernel
/-- A state with open records of other floors beside its own, 32 in all. -/
def crowd (s : State) : State :=
  { s with faults := s.faults ++ (List.range (32 - s.faults.length)).map fun i => (100 + i, newFault .floorPower (30 + i) 0) }
theorem witness_NewFaultIdIsFree :
    site.faults.length < 32 ∧ 1 ≤ site.faultCtl.nextId ∧ site.faultCtl.nextId ≤ 65535 ∧
      (({ site with faultCtl := ⟨7, 0, false⟩ } : State).openFault .powerCut 3).2 = some 8 ∧
      (site.domain? 3).isSome = true ∧ 32 ≤ (crowd site).faults.length ∧ (crowd site).faultOn .feederLoss 0 = none ∧
      (site.fault? 7).isSome = true := by decide +kernel
theorem witness_FaultAckStopsReminder :
    (7 : Word16).toNat ≠ 0 ∧ (site.fault? 7).isSome = true ∧ (0 : Word16).toNat = 0 ∧ site.fault? 65535 = none := by
  decide +kernel
/-- The site with a record linked below record 7. -/
def linkedBelow : State :=
  { site with faults := [(7, { newFault .feederLoss 0 0 with children := 1 }),
      (8, { newFault .fibreCut 4 0 with parent := some 7 })] }
/-- The parent links fall from 8 to 7, so they make no ring. -/
theorem witness_FaultClearRemoves :
    linkedBelow.Listens ∧ linkedBelow.halted = false ∧ (7 : Word16).toNat ≠ 0 ∧
      (linkedBelow.fault? 7).map FaultRecord.parent = some none ∧ (linkedBelow.fault? 7).map FaultRecord.held = some false ∧
      Table.distinct linkedBelow.terms ∧ Table.distinct linkedBelow.faults ∧
      (∀ x g p, linkedBelow.fault? x = some g → g.parent = some p → id p < id x) ∧ linkedBelow.Below 8 7 := by
  refine ⟨by decide +kernel, rfl, by decide, rfl, rfl, by decide +kernel, by decide +kernel, ?_, ?_⟩
  · intro x g p hx hp
    by_cases h7 : x = 7
    · subst h7; cases hx; cases hp
    · by_cases h8 : x = 8
      · subst h8; cases hx; cases hp; decide
      · simp [State.fault?, Table.get?, linkedBelow, Ne.symm h7, Ne.symm h8] at hx
  · exact .single ⟨_, rfl, rfl⟩
/-- A record whose parent stays and one whose parent goes in turn, and ids that are refused; the links are those of
`witness_clearing_limit_of_linked`. -/
theorem witness_clear_of_linked :
    (tree (some 7) 1).Listens ∧ (tree (some 7) 1).halted = false ∧ (8 : Word16).toNat ≠ 0 ∧
      ((tree (some 7) 1).fault? 8).map (fun f => (f.parent, f.held)) = some (some 7, false) ∧
      ((tree (some 7) 1).fault? 7).map (fun q => (decide (0 < q.off), q.kind)) = some (true, .feederLoss) ∧
      ((tree (some 7) 0).fault? 7).map (fun q => (q.off, q.children, q.parent, q.held)) = some (0, 1, none, false) ∧
      (0 : Word16).toNat = 0 ∧ (tree (some 7) 1).fault? 65535 = none := by decide +kernel
/-- Records on domains, one with a record below it and a parent that goes with it, and a window that no record holds. -/
theorem witness_removed_subjects :
    (∀ off ∈ [0, 1], ((tree (some 7) off).faults.map fun e => (e.1, e.2.kind.onDomain, e.2.subject)) =
      [(7, true, 0), (8, true, 1), (9, true, 2)]) ∧
      (tree (some 7) 0).windowOf 0 = .decided 7 ∧ (tree (some 7) 1).windowOf 1 = .decided 8 ∧
      (tree (some 7) 1).windowOf 2 = .decided 9 ∧ linkedBelow.windowOf 2 = .open 0 300 1200 ∧
      site.windowOf 4 = .decided 7 ∧ (site.fault? 7).map (fun f => (f.kind.onDomain, f.subject)) = some (true, 4) := by
  decide +kernel
theorem witness_FaultTimersExpire :
    site.halted = false ∧ (site.fault? 7).map FaultRecord.clearing = some (some 0) ∧ Table.distinct site.terms ∧
      (site.fault? 7).map FaultRecord.reminder = some (some 0) ∧ Table.distinct site.faults ∧
      (site.fault? 7).map FaultRecord.parent = some none ∧ (site.fault? 7).map FaultRecord.held = some false := by
  decide +kernel
/-- Record 8 has a child and, below a top record that closes with it or stays, a parent; its links fall, so they make no
ring. -/
theorem witness_clearing_limit_of_linked :
    (∀ off, (tree (some 7) off).halted = false) ∧
      (∀ x g p, (tree (some 7) 1).fault? x = some g → g.parent = some p → id p < id x) ∧
      ((tree (some 7) 1).fault? 8).map (fun f => (f.clearing, f.parent, f.held)) = some (some 0, some 7, false) ∧
      ((tree (some 7) 1).fault? 9).map FaultRecord.parent = some (some 8) ∧
      ((tree (some 7) 1).fault? 7).map (fun q => (q.off, q.children, q.kind)) = some (1, 1, .feederLoss) ∧
      ((tree (some 7) 0).fault? 7).map (fun q => (q.off, q.children)) = some (0, 1) ∧
      Table.distinct (tree (some 7) 1).terms ∧ Table.distinct (tree (some 7) 1).faults := by
  refine ⟨fun _ => rfl, ?_, by decide +kernel⟩
  intro x g p hx hp
  by_cases h7 : x = 7
  · subst h7; cases hx; cases hp
  · by_cases h8 : x = 8
    · subst h8; cases hx; cases hp; decide
    · by_cases h9 : x = 9
      · subst h9; cases hx; cases hp; decide
      · simp [State.fault?, Table.get?, tree, Ne.symm h7, Ne.symm h8, Ne.symm h9] at hx

/-! ## Witnesses: correlation, notices -/

theorem witness_SplitterDecides :
    (∃ x, (⟨.splitter, none, none, some (2, .a)⟩ : DomainFields).tap = some x ∧
      (({ site with taps := [(4, { newPoint with level := .los })] } : State).tapPoint x.1 x.2).level = .los) ∧
      (let c := defaultSettings
       c.nmin .splitter ≤ 2 ∧ 1 < c.nmin .splitter ∧ c.tf .splitter ≤ 256 * 5 / 8 ∧ 256 * 4 / 8 < c.tf .splitter ∧
         c.tp .splitter ≤ 256 * 4 / 8 ∧ 256 * 3 / 8 < c.tp .splitter) := by
  refine ⟨⟨_, rfl, by decide +kernel⟩, by decide +kernel⟩
theorem witness_WindowCloses :
    (site.domain? 2).map Domain.window = some (.open 0 300 1200) ∧ (site.closeWindow 2).isSome = true ∧
      later 300 (300 : Uptime) = false ∧ (({ site with clock := ⟨300, 0⟩ } : State).closeWindow 2).isSome = true ∧
      (site.counted.closeWindow 2).isSome = true ∧
      (site.domain? 3).map (fun d => d.window.isOpen) = some false ∧
      (site.domain? 4).map (fun d => d.window.isOpen) = some false ∧ site.domain? 63 = none ∧
      (Domain.fields <$> site.domain? 0).map DomainFields.channel = some (some 0) ∧
      (newDomain ⟨.feeder, none, none, none⟩).fields.channel = none := by decide +kernel

/-- A splitter whose three members are held dark, under a segment. -/
def cut (window : Window) (parent : Option Nat) : State :=
  { site with
    domains := [(0, newDomain ⟨.feeder, none, some 0, none⟩), (1, ⟨⟨.segment, some 0, none, none⟩, window⟩),
      (2, ⟨⟨.splitter, parent, none, some (2, .a)⟩, .open 0 300 1200⟩)]
    terms := [(32, term 2 .heldDark false), (33, term 2 .heldPower false), (34, term 2 .offDark false),
      (35, { term 2 .heldDark false with prov := ⟨2, .major, true, 1, true, true⟩ })]
    faults := [(7, { newFault .fibreCut 1 0 with announced := true })]
    latch := [] }
/-- The window of segment 1 is open over splitters 2 and 4, which hold records 7 and 9. -/
def cutSegment (kind : FaultKind) : State :=
  { site with
    domains := [(0, newDomain ⟨.feeder, none, some 0, none⟩), (1, ⟨⟨.segment, some 0, none, none⟩, .open 0 400 1600⟩),
      (2, ⟨⟨.splitter, some 1, none, none⟩, .decided 7⟩), (4, ⟨⟨.splitter, some 1, none, none⟩, .decided 9⟩)]
    terms := [(34, { term 4 .offDark false with link := some 9 })]
    faults := [(7, { newFault .fibreCut 2 0 with held := true }), (9, { newFault kind 4 0 with held := true, off := 1 })]
    settings := { defaultSettings with tfSegment := 129, tpSegment := 129 }
    latch := [] }
/-- A close without a record at a SPLITTER, with one at a SPLITTER under a QUIET and under a DECIDED segment and
under none; without one at a SEGMENT, and with one. -/
theorem witness_close_outcomes :
    ((site.Keyed ∧ site.Linked ∧ site.FaultsAgree) ∧ ((site.closeWindow 2).map fun x => x.2.recorded) = some none) ∧
      (((cut .quiet (some 1)).Keyed ∧ (cut .quiet (some 1)).Linked ∧ (cut .quiet (some 1)).FaultsAgree) ∧
        (((cut .quiet (some 1)).closeWindow 2).map fun x => x.2.recorded) = some (some (8, true)) ∧
        (cut .quiet (some 1)).decidedFrom 3 (some 1) = none) ∧
      (((cut (.decided 7) (some 1)).Keyed ∧ (cut (.decided 7) (some 1)).Linked ∧ (cut (.decided 7) (some 1)).FaultsAgree) ∧
        (((cut (.decided 7) (some 1)).closeWindow 2).map fun x => x.2.recorded) = some (some (8, false)) ∧
        (cut (.decided 7) (some 1)).decidedFrom 3 (some 1) = some 7) ∧
      (((cut .quiet none).Keyed ∧ (cut .quiet none).Linked ∧ (cut .quiet none).FaultsAgree) ∧
        (((cut .quiet none).closeWindow 2).map fun x => x.2.recorded) = some (some (8, false)) ∧
        (cut .quiet none).parentOf 2 = none) ∧
      (((cutSegment .powerCut).Keyed ∧ (cutSegment .powerCut).Linked ∧ (cutSegment .powerCut).FaultsAgree) ∧
        (((cutSegment .powerCut).closeWindow 1).map fun x => (x.2.recorded, x.2.offered)) = some (none, 2)) ∧
      (((cutSegment .fibreCut).Keyed ∧ (cutSegment .fibreCut).Linked ∧ (cutSegment .fibreCut).FaultsAgree) ∧
        (((cutSegment .fibreCut).closeWindow 1).map fun x => (x.2.recorded, x.2.linked)) = some (some (8, true), 2)) := by
  refine ⟨⟨?_, by decide +kernel⟩, ⟨?_, by decide +kernel⟩, ⟨?_, by decide +kernel⟩, ⟨?_, by decide +kernel⟩, ⟨?_, by decide +kernel⟩,
    ⟨?_, by decide +kernel⟩⟩
  all_goals apply agrees_of_checks <;> decide +kernel
/-- A record held in a window that its close opens, and in one that it extends. -/
theorem witness_close_paces :
    ((cut .quiet (some 1)).parentOf 2 = some 1 ∧ (cut .quiet (some 1)).windowOf 1 = .quiet) ∧
      (let s := cut (.open 0 400 1600) (some 1)
       (s.Keyed ∧ s.Linked ∧ s.FaultsAgree) ∧ (s.closeWindow 2).map (fun x => x.2.recorded) = some (some (8, true)) ∧
         s.decidedFrom 3 (some 1) = none ∧ s.windowOf 1 = .open 0 400 1600) := by
  refine ⟨by decide +kernel, ?_, by decide +kernel⟩
  apply agrees_of_checks <;> decide +kernel
/-- Closes that the full table refuses: of a SPLITTER, whose held members are released, and of a SEGMENT, whose held
child notices are offered. -/
theorem witness_close_refused :
    (((crowd (cut .quiet (some 1))).Keyed ∧ (crowd (cut .quiet (some 1))).Linked ∧
        (crowd (cut .quiet (some 1))).FaultsAgree) ∧
      ((crowd (cut .quiet (some 1))).closeWindow 2).map (fun x => (x.2.recorded, x.2.decision, x.2.released)) =
        some (none, .fibreCut, 3) ∧
      (crowd (cut .quiet (some 1))).AsksRecord 2 .splitter .fibreCut) ∧
    (((crowd (cutSegment .fibreCut)).Keyed ∧ (crowd (cutSegment .fibreCut)).Linked ∧
        (crowd (cutSegment .fibreCut)).FaultsAgree) ∧
      ((crowd (cutSegment .fibreCut)).closeWindow 1).map (fun x => (x.2.recorded, x.2.decision, x.2.offered)) =
        some (none, .fibreCut, 2) ∧
      ((crowd (cutSegment .fibreCut)).heldRecords 1).map Prod.fst = [7, 9]) := by
  refine ⟨⟨?_, by decide +kernel, by decide +kernel⟩, ⟨?_, by decide +kernel, by decide +kernel⟩⟩
  all_goals apply agrees_of_checks <;> decide +kernel
theorem witness_DarkIsHeldOrFolded :
    (site.term? (addrOf 2 0)).map Terminal.state = some .lit ∧ site.decidedFrom 3 (some 2) = none ∧
      (site.term? (addrOf 2 5)).map Terminal.state = some .gasped ∧
      (({ site with terms := [(40, term 4 .lit true)] } : State).term? (addrOf 2 8)).map Terminal.state = some .lit ∧
      site.decidedFrom 3 (some 4) = some 7 ∧ (site.fault? 7).isSome = true ∧
      (site.term? (addrOf 2 4)).map (fun e => (e.state, e.prior)) = some (.restoring, some .offDark) ∧
      (site.term? (addrOf 2 1)).map (fun e => (e.state, e.held)) = some (.heldDark, true) ∧
      (site.term? (addrOf 2 2)).map (fun e => (e.state, e.state.isOff)) = some (.offDark, true) ∧
      (site.domain? 2).map Domain.window = some (.open 0 300 1200) ∧
      (let s := { site with terms := [(40, term 3 .lit true)] }
       (s.term? (addrOf 2 8)).map Terminal.state = some .lit ∧ s.decidedFrom 3 (some 3) = none ∧
         (s.domain? 3).map Domain.window = some .quiet) := by decide +kernel
/-- Records that confirm nothing: a DARK of a LIT entry, a LIGHT of a held one. -/
theorem witness_no_confirmation :
    (site.term? (addrOf 2 0)).map (fun e => (e.state, e.held, e.state.isOff)) = some (.lit, false, false) ∧
      (site.term? (addrOf 2 1)).map (fun e => decide (e.state ≠ .lit)) = some true := by decide +kernel
/-- R110, R111, by hand: with L 300 and max factor 4 a window opens from 250 to 550 with cap 1450; an OPEN one that ends
at 300 is extended to 550, and one whose cap is 500 to 500. -/
theorem test_window_times :
    (let s := { site with clock := ⟨250, 0⟩ }
     let d (w : Window) : Domain := ⟨⟨.splitter, none, none, none⟩, w⟩
     (s.windowAfter (d .quiet), s.windowAfter (d (.open 0 300 1200)), s.windowAfter (d (.open 0 300 500)),
       s.windowAfter (d (.open 0 600 1200)))) =
      (.open 250 550 1450, .open 0 550 1200, .open 0 500 500, .open 0 600 1200) := by decide +kernel
/-- An address with no entry: learned already, new with room, new with 64 held. -/
theorem witness_unprovisioned_event :
    site.term? 48 = none ∧ (Table.get? site.learned 48).isSome = true ∧ site.term? 63 = none ∧
      Table.get? site.learned 63 = none ∧ site.learned.length < 64 ∧
      (let s := { site with learned := (List.range 64).map fun i => (100 + i, ⟨6, 0, .dark, 0, true⟩) }
       Table.get? s.learned 63 = none ∧ 64 ≤ s.learned.length ∧ s.term? 63 = none) := by decide +kernel
/-- A notice on the line, its class's slot ARMED. -/
def armed : State :=
  (site.modNotices fun n => n.mod .major fun q =>
    { q with queue := [⟨0, .configLost true⟩], slot := .armed, slotCount := 3, dropped := 5 }).modLink fun l =>
      { l with tx := some (.notice .major ⟨0, .configLost true⟩) }
theorem witness_SentFrameLeaves :
    armed.link.tx = some (.notice .major ⟨0, .configLost true⟩) ∧
      (armed.notices.get .major).queue = ⟨0, .configLost true⟩ :: [] ∧ (armed.notices.get .major).slot = .armed ∧
      (armed.notices.get .critical).slot ≠ .due ∧ (armed.notices.get .major).slot ≠ .due ∧
      (armed.notices.get .minor).slot ≠ .due ∧ (armed.notices.get .info).slot ≠ .due ∧ armed.halted = false ∧
      armed.link.buffer = [] ∧ armed.link.restart = false ∧ armed.notices.partGasp = none ∧
      ((buffered [⟨1, .configSave, .sending (.ok .empty)⟩]).modLink fun l =>
        { l with tx := some (.reply 25 1 (.ok .empty)) }).link.tx = some (.reply 25 1 (.ok .empty)) := by decide +kernel
/-- After an OVERFLOW a MAJOR notice waits: under STRICT, under WEIGHTED with a credit left, and with none. -/
theorem witness_next_notice :
    let s (discipline : Int) (credits : Credits) : State :=
      ({ armed with settings := { defaultSettings with discipline := discipline } }.modNotices fun n =>
        { n with credits := credits }).modLink fun l => { l with tx := some (.overflow .info 1 1 0) }
    (s 0 fullCredits).link.tx = some (.overflow .info 1 1 0) ∧ (s 0 fullCredits).settings.discipline = 0 ∧
      ((s 0 fullCredits).notices.get .major).queue = [⟨0, .configLost true⟩] ∧
      ((s 0 fullCredits).notices.get .critical).queue = [] ∧
      ((s 1 ⟨0, 1, 0, 0⟩).settings.discipline ≠ 0 ∧ 0 < (s 1 ⟨0, 1, 0, 0⟩).notices.credits.get .major) ∧
      ((s 1 ⟨8, 0, 2, 1⟩).notices.credits.get .major = 0 ∧ ((s 1 ⟨8, 0, 2, 1⟩).notices.get .critical).queue = [] ∧
        ((s 1 ⟨8, 0, 2, 1⟩).notices.get .minor).queue = [] ∧ ((s 1 ⟨8, 0, 2, 1⟩).notices.get .info).queue = []) := by
  decide +kernel
/-- A WEIGHTED round that has ended: every class empty, and a class without a credit while a reply is ready. -/
theorem witness_round_ends :
    let s (q : State) (b : List Entry) : State :=
      (q.modNotices fun n => { n with credits := ⟨8, 0, 2, 1⟩ }).modLink fun l =>
        { l with tx := some (.overflow .info 1 1 0), buffer := b }
    (s site []).link.tx = some (.overflow .info 1 1 0) ∧ (s site []).settings.discipline ≠ 0 ∧
      (∀ c ∈ NoticeClass.every, ((s site []).notices.get c).queue = []) ∧
      (∀ c ∈ NoticeClass.every, ((s armed []).notices.get c).queue = [] ∨ (s armed []).notices.credits.get c = 0) ∧
      (s armed [⟨1, .identify, .answered (.ok .empty)⟩]).link.buffer.any (fun e =>
        decide (e.cond = .answered (.ok .empty))) = true := by decide +kernel
/-! ## Witnesses: store and starts -/

theorem witness_SaveCompletes : saving.store.saving = some (site.image 1) := rfl
theorem witness_SavedImageIsLoaded :
    ({ State.reset with store := ⟨.ofImage (site.image 1), none, 1, true⟩ } : State).store.flash =
      .written (site.image 1) (crc32 (site.image 1).bytes) := rfl
theorem witness_FailedImageStartsEmpty :
    State.reset.store.flash.load = none ∧ saving.store.flash.load = none ∧
      (Flash.written emptyImage (crc32 emptyImage.bytes + 1)).load = none :=
  ⟨rfl, rfl, by simp [Flash.load]⟩
theorem witness_SoftRestartIsAnswered :
    ({ site with halted := true } : State).Listens ∧ (site.modLink fun l => { l with restart := true }).link.restart = true := by
  decide +kernel
theorem witness_SoftRestartKeepsProvisioning :
    let s := (buffered [⟨1, .identify, .waiting⟩]).modLink fun l => { l with restart := true }
    s.link.restart = true ∧ (∀ e ∈ s.link.buffer, e.cond = .waiting) ∧ s.link.tx = none := by decide +kernel
theorem witness_SupplyFailHalts :
    site.halted = false ∧ ({ site with halted := true } : State).halted = true ∧
      (∀ e ∈ (buffered [⟨1, .configSave, .inHand⟩]).link.buffer, e.cond = .inHand) := by decide +kernel
/-- In HALTED, an attempt that waits for its reply at the end of its window, one whose reply is not ended at 20 ms, and a
CLEAR that has been sent on a line now quiet. -/
theorem witness_halted_line :
    let s (o : Order) (ph : Phase) (el : Nat) : State := { onBus o ph el true with halted := true }
    (s (.poll 2 false) .sent 4).halted = true ∧
      (s (.poll 2 false) .sent 4).riser.txn = some ⟨.poll 2 false, 1, .sent, 4, false⟩ ∧
      (s (.status 2) .replying 20).riser.txn = some ⟨.status 2, 1, .replying, 20, false⟩ ∧
      (s (.clear .all) .sent 2).riser.txn = some ⟨.clear .all, 1, .sent, 2, false⟩ ∧
      (s (.clear .all) .sent 2).riser.quiet = true ∧ (s (.clear .all) .sent 2).store.saving = none := by decide +kernel
/-! ## Witnesses: riser -/

theorem witness_AttentionStartsSweep :
    (onBus (.poll 2 false) .sent 1 false).riser.txn.isSome = true ∧
      (site.riser.txn = none ∧ site.sched.sweep = none ∧ site.sched.pendingClear = none ∧
        site.sched.lastPolled = some 2 ∧ (site.unit? ((2 + 1 + 0) % 64)).map FloorUnit.contact = some .present ∧
        (let s := { site with sched := { site.sched with lastPolled := some 63 } }
         s.sched.lastPolled = some 63 ∧ (∀ j, j < 2 → s.unit? ((63 + 1 + j) % 64) = none) ∧
           (s.unit? ((63 + 1 + 2) % 64)).map FloorUnit.contact = some .active)) ∧
      (∃ e ∈ site.fmus, ∃ r ∈ e.2.queue, r.kind = .gasp ∨ r.kind = .dark ∨ r.kind = .unitGasp) := by
  decide +kernel
theorem witness_CommandsGoOut :
    let s (o : Order) := onBus o .toSend 3 true
    (s (.poll 2 false)).halted = false ∧ (s (.poll 2 false)).riser.quiet = true ∧
      (s (.poll 2 false)).riser.txn = some ⟨.poll 2 false, 1, .toSend, 3, false⟩ ∧
      (s (.status 2)).riser.txn = some ⟨.status 2, 1, .toSend, 3, false⟩ ∧
      (s (.clear .all)).riser.txn = some ⟨.clear .all, 1, .toSend, 3, false⟩ ∧
      (onBus (.clear .all) .toSend 20 false).riser.quiet = false := by decide +kernel
theorem witness_PollMovesRecords :
    let u : Fmu := { newFmu 2 1 with queue := [⟨.dark, 0, 12⟩] }
    Table.get? site.fmus 5 = some u ∧ u.floor = 2 ∧ (∀ recs, u.held ≠ some (false, recs)) ∧
      ({ u with held := some (false, []) } : Fmu).held = some (false, []) ∧
      (u.Hears ⟨[3], [4], []⟩ 5 ∧ ¬ u.Hears ⟨[5], [], []⟩ 5 ∧ ¬ u.Hears ⟨[], [5], []⟩ 5 ∧
        ¬ ({ u with deaf := true } : Fmu).Hears ⟨[], [], []⟩ 5) ∧
      (newFmu 3 1).floor ≠ 2 := by
  refine ⟨by decide +kernel, rfl, fun _ h => ?_, rfl, by decide, by decide⟩
  simp [newFmu] at h
/-- A command that waits on a line not quiet for 20 ms, replies in their time, and an empty queue. -/
theorem witness_unquiet_line :
    (onBus (.poll 2 false) .toSend 20 false).riser.quiet = false ∧
      (onBus (.poll 2 false) .toSend 20 false).riser.txn = some ⟨.poll 2 false, 1, .toSend, 20, false⟩ ∧
      (onBus (.status 2) .toSend 20 false).riser.txn = some ⟨.status 2, 1, .toSend, 20, false⟩ ∧
      (onBus (.clear .all) .toSend 20 false).riser.txn = some ⟨.clear .all, 1, .toSend, 20, false⟩ ∧
      (Order.poll 2 false).floor? = some 2 ∧ (onBus (.poll 2 false) .sent 4 false).pending = [] := by decide +kernel
/-- STATUS of floor 2, and a CLEAR that names floor 2 by BROADCAST, GROUP or UNICAST_QUIET, or does not name it. -/
theorem witness_status_and_clear :
    let s (o : Order) := onBus o .toSend 3 true
    (s (.status 2)).riser.txn = some ⟨.status 2, 1, .toSend, 3, false⟩ ∧
      (s (.clear (.group 7))).riser.txn = some ⟨.clear (.group 7), 1, .toSend, 3, false⟩ ∧
      (s (.clear (.one 63))).riser.quiet = true ∧ (s (.clear .all)).halted = false ∧
      (Table.get? site.fmus 5).map (fun u => (u.floor, u.floor / 8)) = some (2, 0) ∧
      (Scope.group 7 ≠ .all ∧ Scope.group 7 ≠ .group 0 ∧ Scope.group 7 ≠ .one 2) := by decide +kernel
theorem witness_FailedAttemptRetriesOrMisses :
    (onBus (.poll 2 false) .sent 4 false).riser.txn = some ⟨.poll 2 false, 1, .sent, 4, false⟩ ∧
      (onBus (.status 2) .replying 20 false).riser.txn = some ⟨.status 2, 1, .replying, 20, false⟩ ∧
      (Order.status 2).floor? = some 2 ∧ (site.unit? 2).map FloorUnit.contact = some .active ∧
      1 ≤ site.settings.retries.toNat ∧ site.settings.retries.toNat < 2 ∧ 0 + 1 < site.settings.silentLimit.toNat := by
  decide +kernel
/-- One failing reply for each of the first three checks of R34, and for the last (a map reply to a POLL); the reply
of one byte 0x00 has a good CRC-8 and another floor (R183). -/
theorem witness_failing_replies :
    checkReply (.poll 2 false) [⟨0x02, true, false⟩] = .error .parity ∧
      checkReply (.poll 2 false) [⟨0x02, true, true⟩] = .error .parity ∧
      checkReply (.poll 2 false) (([0x02, 0x10] ++ [0x00]).map sentChar) = .error .check ∧ crc8 [0x02, 0x10] ≠ 0x00#8 ∧
      checkReply (.poll 2 false) (([] ++ [0x00]).map sentChar) = .error .wrongAddress ∧ crc8 [] = 0x00#8 ∧
      ([] ++ [0x00] : List Byte).head? ≠ some (BitVec.ofNat 8 (2 % 64)) ∧
      checkReply (.poll 2 false) (chars [0x02, 0x22, 0x00, 0x01, 0x80, 0x00, 0x80, 0x00, 0xDB]) = .error .check := by
  decide +kernel
/-- Replies with a good CRC-8 and the right floor: two that pass checks 4 and 5, and for each check some that fail (bit 2
set, the other sequence bit, seven records, a length that is not 8 + 3n; held sequence 11, eight bytes). -/
theorem witness_reply_codes :
    let ok (o : Order) (rest : List Byte) : Bool := match checkReply o (chars (closeFrame (2 :: rest))) with
      | .ok _ => true
      | .error _ => false
    ok (.poll 2 true) [0x13, 1, 0x25, 0, 30, 0x80, 0, 0x80, 0] = true ∧
      ok (.status 2) [0x21, 0, 1, 0x80, 0, 0x80, 0] = true ∧
      ok (.poll 2 true) [0x15, 0, 0x80, 0, 0x80, 0] = false ∧ ok (.poll 2 true) [0x10, 0, 0x80, 0, 0x80, 0] = false ∧
      ok (.poll 2 true) (0x11 :: 7 :: List.replicate 25 0) = false ∧
      ok (.poll 2 true) [0x11, 1, 0x80, 0, 0x80, 0] = false ∧ ok (.poll 2 true) [] = false ∧
      ok (.status 2) [0x23, 0, 1, 0x80, 0, 0x80, 0] = false ∧ ok (.status 2) [0x22, 0, 1, 0x80, 0, 0x80] = false := by
  decide +kernel
/-- A unit that falls silent within the gasp hold while record 5 stands for its floor. -/
theorem witness_silence_again :
    let s : State := { onBus (.poll 2 false) .sent 4 false with
      riser := { site.riser with txn := some ⟨.poll 2 false, 2, .sent, 4, false⟩ }
      units := [(2, { newUnit with contact := .retrying, misses := 2, gaspTime := some 300 })], clock := ⟨500, 0⟩
      faults := site.faults ++ [(5, { newFault .floorPower 2 9 with state := .clearing, clearing := some 3, off := 1 })] }
    s.faultOn .floorPower 2 = some 5 ∧ (s.fault? 5).isSome = true ∧ s.halted = false ∧ Table.distinct s.terms ∧
      s.riser.txn = some ⟨.poll 2 false, 2, .sent, 4, false⟩ ∧
      ((500 : Uptime) - 300).toNat * 10 ≤ s.settings.gaspHold.toNat := by decide +kernel
/-- The third miss: with no unit gasp, with one longer ago than the gasp hold of 2000 ms, and with one 2000 ms
ago. -/
theorem witness_silence :
    let u (gasp : Option Uptime) : FloorUnit := { newUnit with contact := .retrying, misses := 2, gaspTime := gasp }
    let s (gasp : Option Uptime) (n : Nat) : State :=
      { (site.modRiser fun r => { r with txn := some ⟨.poll 2 false, n, .sent, 4, false⟩ }) with
        units := [(2, u gasp)], clock := ⟨500, 0⟩ }
    (s none 2).riser.txn = some ⟨.poll 2 false, 2, .sent, 4, false⟩ ∧ (s none 2).unit? 2 = some (u none) ∧
      (s none 2).settings.retries.toNat < 2 ∧ (s none 2).settings.silentLimit.toNat ≤ (u none).misses + 1 ∧
      (u none).contact ≠ .silent ∧ (s none 2).faultOn .floorPower 2 = none ∧ (s none 2).faultOn .unitLost 2 = none ∧
      (s none 2).faults.length < 32 ∧ Table.distinct (s none 2).terms ∧
      (s none 2).settings.gaspHold.toNat < ((500 : Uptime) - 299).toNat * 10 ∧
      ((500 : Uptime) - 300).toNat * 10 ≤ (s none 2).settings.gaspHold.toNat ∧
      ({ site with faults := [(3, newFault .unitLost 2 0)] } : State).faultOn .unitLost 2 ≠ none ∧
      (32 ≤ (crowd (s (some 300) 2)).faults.length ∧ (crowd (s (some 300) 2)).faultOn .floorPower 2 = none) ∧
      ((crowd (s none 2)).faultOn .floorPower 2 = none ∧ (crowd (s none 2)).faultOn .unitLost 2 = none) := by
  decide +kernel
/-- A reply that ends a transaction with no attention and no CLEAR waiting: the visit goes on, or ends with a next floor in
the cycle, and with none at a level with a gap. -/
theorem witness_transaction_ends :
    let s (extra : Nat) (pos : Option Nat) : State := { onBus (.poll 2 false) .replying 20 false with
      fmus := []
      sched := { newSched 500 with visit := some ⟨2, extra, false⟩, pos := pos, level := 2, lastPolled := some 2 } }
    (s 0 none).riser.mark = false ∧ (s 0 none).attnLow = false ∧ (s 0 none).sched.pendingClear = none ∧
      (s 0 none).sched.sweepWanted = false ∧ (s 0 none).sched.visit = some ⟨2, 0, false⟩ ∧ 3 ≤ 3 ∧
      (s 3 (some 3)).sched.sweep = none ∧ (s 3 (some 3)).sched.gap = none ∧ (s 3 (some 3)).sched.pos = some 3 ∧
      ((s 3 (some 3)).nextOfCycle 3 0 none).map Prod.fst = some 3 ∧ (s 3 (some 4)).nextOfCycle 4 0 none = none ∧
      0 < gapBetweenCycles 2 (s 3 none).sched.cycleUsed := by decide +kernel
theorem witness_GoodReplyUpdatesUnit :
    (onBus (.poll 2 false) .replying 20 false).riser.txn = some ⟨.poll 2 false, 1, .replying, 20, false⟩ ∧
      (onBus (.poll 2 false) .sent 4 false).riser.txn = some ⟨.poll 2 false, 1, .sent, 4, false⟩ ∧
      (site.unit? 2).isSome = true ∧ (Order.status 9).floor? = some 9 ∧
      (site.modRiser fun r => { r with txn := some ⟨.status 9, 1, .sent, 4, true⟩ }).riser.txn =
        some ⟨.status 9, 1, .sent, 4, true⟩ := by decide +kernel
/-- The reply bytes are those of the wire layout: floor 2, bit 0, no record, two no-readings. -/
theorem witness_good_event_reply :
    checkReply (.poll 2 false) (chars [0x02, 0x10, 0x00, 0x80, 0x00, 0x80, 0x00, 0xA0]) =
      .ok (.events false [] 0x8000 0x8000) := by decide +kernel
/-- A reply with a DARK, a record of unknown kind and a UNIT_GASP. -/
theorem witness_records :
    checkReply (.poll 2 false) (chars (closeFrame [0x02, 0x10, 0x03, 0x25, 0x00, 0x1E, 0x75, 0x00, 0x1E, 0x40, 0x00, 0x14,
        0x80, 0x00, 0xFF, 0x2E])) =
      .ok (.events false [⟨some .dark, 5, 30⟩, ⟨none, 5, 30⟩, ⟨some .unitGasp, 0, 20⟩] 0x8000 0xFF2E) := by decide +kernel
/-- The return of a unit with a FLOOR_POWER record that is OPEN with terminals off, OPEN with none, or CLEARING, and with
a UNIT_LOST record. -/
theorem witness_returning_unit :
    let s (f : FaultRecord) : State := { site with faults := site.faults ++ [(5, f)] }
    let p : FaultRecord := newFault .floorPower 2 9
    ((s { p with off := 1 }).faultOn .floorPower 2 = some 5 ∧
        ((s { p with off := 1 }).fault? 5).map (fun g => (g.kind, g.state, decide (0 < g.off))) =
          some (.floorPower, .opened, true)) ∧
      ((s p).fault? 5 = some p ∧ p.state = .opened ∧ p.off = 0 ∧ p.children = 0 ∧ p.parent = none ∧ p.held = false ∧
        p.subject = 2 ∧ Table.distinct (s p).faults) ∧
      ((s { p with state := .clearing }).fault? 5).map FaultRecord.state = some .clearing ∧
      ((s (newFault .unitLost 2 9)).faultOn .unitLost 2 = some 5 ∧
        ((s (newFault .unitLost 2 9)).fault? 5).map (fun g => (g.kind, g.subject)) = some (.unitLost, 2) ∧
        Table.distinct (s (newFault .unitLost 2 9)).faults) ∧
      (site.faultOn .floorPower 2 = none ∧ site.faultOn .unitLost 2 = none) := by decide +kernel
theorem witness_MapReplyBaselinesFloor :
    (onBus (.status 2) .replying 20 false).riser.txn = some ⟨.status 2, 1, .replying, 20, false⟩ ∧
      (site.unit? 2).map (fun u => decide (u.contact ≠ .silent)) = some true ∧
      (let s := { site with units := [(2, { newUnit with contact := .silent })], faults := [(3, newFault .unitLost 2 0)] }
       (s.unit? 2).map FloorUnit.contact = some .silent ∧ s.faultOn .unitLost 2 = some 3) ∧
      site.faultOn .unitLost 2 = none ∧ site.faultOn .floorPower 2 = none ∧ Table.distinct site.terms := by decide +kernel
/-- An entry for each row of R99 and R100, its port lit or dark, with the count that the rules give it. -/
theorem witness_baseline_rows :
    let lost (p : TState) : Terminal := { term 3 .noContact false with prior := some p }
    let s : State := { site with terms := [(32, term 3 .unseen false), (33, lost .unseen), (34, lost .gasped),
      (35, lost .heldDark), (36, { lost .offDark with link := some 7 }), (37, lost .offPower), (38, term 3 .offDark false)] }
    (s.terms.map fun e => ((s.baselineTerm 0xFFFF e.1).2, (s.baselineTerm 0 e.1).2)) =
      [(.lit, .dark), (.lit, .dark), (.lit, .raised), (.lit, .raised), (.restored, .resumed), (.restored, .resumed),
        (.unchanged, .unchanged)] ∧
      (s.fault? 7).map (fun g => decide (1 < g.off)) = some true ∧ s.decidedFrom 3 (some 3) = none ∧
      site.decidedFrom 3 (some 4) = some 7 ∧
      (({ s with faults := [(7, { newFault .fibreCut 4 0 with off := 1 })] } : State).fault? 7).map
        (fun g => (g.off, g.children, g.parent, g.held)) = some (1, 0, none, false) := by decide +kernel
theorem witness_good_map_reply :
    checkReply (.status 2) (chars [0x02, 0x22, 0x00, 0x01, 0x80, 0x00, 0x80, 0x00, 0xDB]) =
      .ok (.map 1 none 0x8000 0x8000) := by decide +kernel
theorem witness_ResyncGoesInHand :
    scopeOf 1 7 = some (.group 7) ∧ scopeOf 2 63 = some (.one 63) ∧ scopeOf 0 0 = some .all ∧
      site.sched.pendingClear = none ∧
      (site.modSched fun c => { c with pendingClear := some .all }).sched.pendingClear ≠ none ∧
      7 < (8 : Byte).toNat ∧ 63 < (64 : Byte).toNat ∧ 2 < (3 : Byte).toNat := by decide +kernel
theorem witness_ClearEndMarksFloors :
    let s := (onBus (.clear .all) .sent 2 true).modLink fun l => { l with buffer := [⟨1, .resync 0 0, .inHand⟩] }
    s.halted = false ∧ s.riser.quiet = true ∧ s.riser.txn = some ⟨.clear .all, 1, .sent, 2, false⟩ ∧
      (∀ e ∈ s.link.buffer, e.cond = .inHand ∧ e.req = .resync 0 0) ∧
      (onBus (.clear .all) .sent 2 false).riser.quiet = false := by decide +kernel
theorem witness_CharacterBeginsReply :
    (onBus (.status 2) .sent 4 true).riser.txn = some ⟨.status 2, 1, .sent, 4, false⟩ ∧ site.riser.txn = none ∧
      (onBus (.status 2) .sent 5 true).riser.txn = some ⟨.status 2, 1, .sent, 5, false⟩ ∧ site.pending = [] := by
  decide +kernel
theorem witness_FmusRecordAndStart : (Table.get? site.fmus (5 : BitVec 6).toNat).isSome = true := by decide +kernel
/-! ## Witnesses: timers and samples -/

/-- The site with its window dropped, so that the pacing timers run. -/
def calm : State :=
  { site with
    domains := site.domains.map fun e => (e.1, newDomain e.2.fields)
    sched := { newSched 500 with step := some 0, gap := some 0, level := 7, pos := none } }
/-- The step and gap timers are due, with a floor to visit in the next cycle, and with every unit SILENT and a count
that visits none. -/
theorem witness_PacingTimersExpire :
    calm.halted = false ∧ calm.sched.step = some 0 ∧ calm.sched.windowOpen = false ∧ calm.openCount = 0 ∧
      calm.FreeBus ∧ calm.sched.gap = some 0 ∧ calm.sched.visit = none ∧ calm.sched.sweep = none ∧
      (1 ≤ calm.sched.level ∧ calm.sched.level ≤ 8) ∧
      (calm.nextOfCycle 0 calm.sched.count none).map Prod.fst = some 2 ∧ (calm.unit? 2).isSome = true ∧
      (let s := { calm with units := [(2, { newUnit with contact := .silent })], sched := { calm.sched with count := 7 } }
       s.FreeBus ∧ s.nextOfCycle 0 s.sched.count none = none) := by decide +kernel
/-- A free bus with an extra poll to send, a gap that runs, a next floor, and the end of a cycle with a gap and without;
with a sweep that has a next floor, one that ends while the line is low, and one that ends while it is not; and a sweep
that waits. -/
theorem witness_free_bus :
    let s (c : Sched) : State := { calm with sched := c }
    let c := newSched 500
    let w (next : Option Nat) : Sweep := ⟨next, 2, some 3, true⟩
    ((s { c with visit := some ⟨2, 0, true⟩ }).FreeBus ∧ (s { c with gap := some 9 }).FreeBus ∧ (s c).VisitOver ∧
        ((s c).nextOfCycle 0 0 none).map Prod.fst = some 2 ∧ (s c).nextOfCycle 4 0 none = none ∧
        0 < gapBetweenCycles 8 true ∧ gapBetweenCycles 1 true = 0) ∧
      ((s { c with sweep := some (w (some 63)) }).VisitOver ∧ 3 ≤ ((w (some 63)).final + 64 - 63) % 64 ∧
        ((calm.unit? ((63 + 3) % 64)).map FloorUnit.contact = some .active) ∧
        (∀ j, j < 3 → (calm.unit? ((63 + j) % 64)).isNone = true)) ∧
      ((w none).next = none ∧ calm.attnLow = true ∧ ({ calm with fmus := [] } : State).attnLow = false) ∧
      (s { c with sweepWanted := true }).sched.sweepWanted = true ∧
      (calm.endTxn true).sched.sweepWanted = true := by decide +kernel
/-- After a command a gap may run with the bus free. -/
theorem witness_gap_after_command :
    (match exec (.identify 1) { calm with sched := { newSched 500 with gap := some 9 } } with
      | .next t => decide (t.halted = false ∧ t.riser.txn = none)
      | _ => false) = true := by decide +kernel
theorem witness_TapReadingTakesIn : (0x8000 : Word16) = 0x8000#16 ∧ (0x7FFF : Word16) ≠ 0x8000#16 := by decide
/-- Channel 0, which FEEDER 0 names, goes into LOS at its third low sample, and out of it. -/
theorem witness_FeederSampleTakesIn :
    let s (l : LevelState) (avg : Int) (lows : Nat) : State := { site with feeders := [(0, ⟨⟨l, some avg, none, lows⟩, 3, none, 0⟩)] }
    site.halted = false ∧ (s .normal (-180) 2).channelDomain 0 = some 0 ∧
      ((s .normal (-180) 2).feeder 0).point.level ≠ .los ∧
      (((s .normal (-180) 2).feederSample 0 0).feeder 0).point.level = .los ∧
      (((s .los (-180) 0).feederSample 0 2267).feeder 0).point.level = .normal ∧
      (let w := { s .los (-180) 0 with
          domains := [(0, ⟨⟨.feeder, none, some 0, none⟩, .decided 9⟩)]
          faults := [(9, { newFault .feederLoss 0 0 with off := 1 })] }
       w.channelDomain 0 = some 0 ∧ w.faultOn .feederLoss 0 = some 9 ∧ (w.feeder 0).point.level = .los ∧
         ((w.feederSample 0 2267).feeder 0).point.level ≠ .los) ∧
      (site.channelDomain 3 = none ∧ (s .los (-180) 0).faultOn .feederLoss 0 = none) ∧
      (site.faultOn .feederLoss 0 = none ∧ site.holdsFault 0 = false ∧ site.faults.length < 32 ∧
        (site.domain? 0).map (fun o => o.fields.level) = some .feeder) := by decide +kernel
theorem witness_TerminalTimersExpire :
    site.halted = false ∧
      (site.term? 37).map (fun e => decide (e.state = .gasped ∧ e.gaspHold = some 0)) = some true ∧
      (site.term? 36).map (fun e => decide (e.state = .restoring ∧ e.holdDown = some 0)) = some true ∧
      ({ term 4 .restoring true with holdDown := some 0 } : Terminal).link = none := by decide +kernel
/-- A folded entry whose record has other terminals off, whose record closes at the top, below a parent that stays, and
below one that closes in turn. -/
theorem witness_folded_restore :
    (site.term? 36).map Terminal.link = some (some 7) ∧ (site.fault? 7).map (fun f => decide (1 < f.off)) = some true ∧
      Table.distinct site.faults ∧ Table.distinct (tree none 0).faults ∧
      (let s := { tree none 0 with faults := [(9, { newFault .fibreCut 2 0 with off := 1 })] }
       (s.fault? 9).map (fun f => (f.off, f.children, f.parent, f.held)) = some (1, 0, none, false) ∧
         s.windowOf 2 = .decided 9) ∧
      ((tree none 0).term? 32).map (fun e => (e.state, e.holdDown, e.link)) = some (.restoring, some 0, some 9) ∧
      ((tree none 0).fault? 9).map (fun f => (f.off, f.children, f.parent, f.held)) = some (1, 0, some 8, false) ∧
      ((tree none 0).fault? 8).map (fun q => (q.off, q.children, q.parent, q.held)) = some (0, 1, none, false) ∧
      (let s := (tree none 0).modFault 8 fun q => { q with off := 1 }
       (s.fault? 8).map (fun q => (decide (0 < q.off), q.kind)) = some (true, .fibreCut)) := by decide +kernel
theorem witness_AgingTickAges :
    let s := site.modTally fun c => { c with aging := 0 }
    s.halted = false ∧ s.tally.aging = 0 ∧ Table.distinct s.learned := by decide +kernel

/-! ## Single steps, with results worked out by hand from the rules -/

/-- The state that a command leaves. -/
def after (c : Instr) (s : State) : State :=
  match exec c s with
  | .next t => t
  | .fault _ => s
  | .refused _ => s

/-- Nothing is waiting: a millisecond passes, and uptime wraps from 2^32 − 1 to 0. -/
theorem test_uptime_wraps :
    (match step { site with clock := ⟨0xFFFFFFFF, 9⟩ } with | .next t => t.clock | _ => ⟨1, 1⟩) = ⟨0, 0⟩ := by
  decide +kernel
/-- IDENTIFY is answered in HALTED (R180), SETTINGS_READ is not (R174). -/
theorem test_halted_answers :
    ((after (.settingsRead 5) { site with halted := true }).link.tx = some (.reply 13 5 (.fail .halted))) := by
  decide +kernel
/-- R87, R109: a LIT terminal goes dark in a domain with an open window, and is held. -/
theorem test_dark_is_held :
    ((site.takeEvent 2 false .dark 0 0).term? 32).map Terminal.state = some .heldDark := by decide +kernel
/-- R112: the close at 300 finds M 3 (32 LIT, 33 HELD_DARK, 37 GASPED), F 85, P 85: INDIVIDUAL, and 33 is
released. -/
theorem test_window_close :
    ((after (.windowTimerExpiry 2) { site with clock := ⟨300, 0⟩ }).term? 33).map
      (fun e => (e.state, e.reported)) = some (.offDark, true) := by decide +kernel
/-- R56: that close leaves no domain OPEN, so the window flag clears and the step timer starts in full. -/
theorem witness_window_flag :
    site.sched.windowOpen = true ∧ site.sched.step = none ∧
      (let t := after (.windowTimerExpiry 2) { site with clock := ⟨300, 0⟩ }
       t.domains.all (fun e => !e.2.window.isOpen) = true ∧ t.sched.windowOpen = false ∧ t.sched.step = some 500) := by
  decide +kernel
/-- R91, R137, R139: the last linked terminal but one restored, the record stays with off count 1. -/
theorem test_hold_down_restores :
    ((after (.holdDownExpiry 36) site).fault? 7).map FaultRecord.off = some 1 := by decide +kernel
/-- R139: the last terminal's restore closes records 9, 8 and 7 one after another, with one FAULT_CLOSED. -/
theorem test_restore_closes_tree :
    (let t := after (.holdDownExpiry 32) (tree (some 7) 0)
     (t.faults, t.windowOf 0, t.windowOf 1, t.windowOf 2, t.notices.info.queue.map Notice.body)) =
      ([], .quiet, .quiet, .quiet,
        [.faultClosed 7 .feederLoss (.domain 0 .feeder) .cleared false 0 0 0 0 false 0]) := by decide +kernel
/-- The worked example "late gasp and a flap" (5): the flap at 22000 leaves the time of last change 10000, and
TERMINAL_RESTORED carries it as the off time. -/
theorem test_flap_keeps_first_dark :
    (let s := { site with terms := [(208, { term 3 .offDark false with
        prov := ⟨3, .major, true, 7, false, false⟩, reported := true, lastCause := some .dark
        lastChange := some 10000 })] }
     let t := (s.takeEvent 13 false .light 0 20000).takeEvent 13 false .dark 0 22000
     ((t.term? 208).map (fun e => (e.state, e.lastChange, e.flaps)),
       ((((t.takeEvent 13 false .light 0 30000).modTerm 208 fun e => { e with holdDown := some 0 }).holdDownExpires
         208).notices.info.queue.map Notice.body))) =
      (some (.offDark, some 10000, 1),
        [.terminalRestored 208 7 (some .dark) (some 10000) .holdDown 1]) := by decide +kernel
/-- R163: the last notice of the round's one used class leaves, and with every class empty a new round starts. -/
theorem test_round_ends_when_empty :
    (after .frameBoundary (armed.modNotices fun n => { n with credits := ⟨8, 0, 2, 1⟩ })).notices.credits =
      ⟨8, 4, 2, 1⟩ := by decide +kernel
/-- R140: at the clearing limit the record goes and its domain is QUIET. -/
theorem test_clearing_limit :
    (after (.clearingTimerExpiry 7) site).faults = [] ∧ (after (.clearingTimerExpiry 7) site).windowOf 4 = .quiet := by
  decide +kernel
/-- R90: a gasp hold that expires. -/
theorem test_gasp_hold : ((after (.gaspHoldExpiry 37) site).term? 37).map (fun e => (e.state, e.gasp, e.gaspRecovered)) =
    some (.lit, false, 1) := by decide +kernel
/-- R165: the drop count stands, the OVERFLOW carries the slot's count, at the boundary after the send. -/
theorem test_overflow : (after .frameBoundary armed).link.tx = some (.overflow .major 3 5 0) := by decide +kernel
/-- The first row of "A floor power cut" (2.7): event time 249996 for a UNIT_GASP of age 40 ms taken at 250000. -/
theorem test_event_time : eventTime 250000 40 = 249996#32 ∧ eventTime 250000 30 = 249997#32 := by decide +kernel
/-- R182: code 0 on channel 0 of a fed riser three times: the second row of "a feeder cut" begins at −285. -/
theorem test_feeder_average :
    (((site.modRiser id).feederSample 0 0).feeder 0).point.average = some (-600) ∧
      smoothStep 2 (-180) (-600) = -285 ∧ smoothStep 2 (-285) (-600) = -363 := by decide +kernel
/-- R187: an erased image area at a power-on: the part starts empty, straps high and low. -/
theorem test_power_on : (after (.powerOnReset true false false) State.reset).link.rate = .r230400 := by decide +kernel
/-- R29, R33: the FMU of floor 2 hears the POLL and puts its event reply on the pair. -/
theorem test_poll_answered :
    (after (.poll ⟨[], [], []⟩) (onBus (.poll 2 false) .toSend 3 true)).riser.wire =
      [chars (eventReply 2 false false [⟨.dark, 0, 12⟩] 0x8000 0x8000)] := by decide +kernel
/-- R25: after an address byte in error the FMU ignores the POLL and the retry that goes out on the unquiet line, and
hears again once a millisecond passes without a character. -/
theorem test_address_error :
    (let s := after (.poll ⟨[5], [], []⟩) (onBus (.poll 2 false) .toSend 3 true)
     let t := after (.riserBusy ⟨[], [], []⟩)
       (s.modRiser fun r => { r with txn := some ⟨.poll 2 false, 2, .toSend, 20, false⟩ })
     (s.riser.wire, t.riser.wire, t.fmus.map fun e => (e.2.deaf, e.2.queue.length),
       match step t with | .next u => u.fmus.map fun e => e.2.deaf | _ => [])) =
      ([], [], [(true, 1)], [false]) := by decide +kernel
/-- R26: two FMUs strapped to floor 2 both answer, each with its own taps; one that hears the frame damaged does
not. -/
theorem test_two_units_on_one_floor :
    let s := after (.fmuStart ⟨9, 2⟩ 3) (onBus (.status 2) .toSend 3 true)
    (after (.status ⟨[], [], [⟨9, 0xFF2E, 0x8000⟩]⟩) s).riser.wire =
        [chars (mapReply 2 1 none 0x8000 0x8000), chars (mapReply 2 3 none 0xFF2E 0x8000)] ∧
      (after (.status ⟨[], [5], []⟩) s).riser.wire = [chars (mapReply 2 3 none 0x8000 0x8000)] := by decide +kernel
/-- R24: the nine bits hold an odd number of ones. -/
theorem test_odd_parity :
    sentChar 0x00 = ⟨0x00, true, true⟩ ∧ sentChar 0x07 = ⟨0x07, false, true⟩ ∧ badChar ⟨0x07, true, true⟩ = true ∧
      badChar ⟨0x00, true, false⟩ = true := by decide +kernel
/-- R53: floor 9, provisioned at the position of the running cycle, is not found in this cycle; provisioned at the
position of a cycle that waits for a sweep, it is (R54). -/
theorem test_provisioned_at_position :
    (let s := onBus (.poll 2 false) .toSend 3 true
     let t (waits : Bool) := after (.floorUnitWrite 1 9) { s with sched := { s.sched with
       pos := some 9, cycleWaits := waits } }
     ((t false).sched.skip, (t false).cycleFind, ((t false).modSched Sched.newCycle).cycleFind, (t true).cycleFind)) =
      (some 9, none, some 2, some 9) := by decide +kernel
/-- R54, R58: an attention assertion ends the gap, and the next cycle waits for the sweep. -/
theorem test_sweep_before_cycle :
    (let s := { site with sched := { newSched 500 with gap := some 9, pos := none, lastPolled := some 2 } }
     let t := after .attentionAsserted s
     (t.sched.gap, t.sched.pos, t.sched.sweep.isSome, t.sched.cycleWaits)) = (none, some 0, true, true) := by
  decide +kernel
/-- R182: each count of BASELINE_DONE takes one byte, and FAULT_OPENED's channel has a presence byte. -/
theorem test_notice_words :
    (NoticeBody.baselineDone 2 3 ⟨1, 0, 1, 0, 1, 0⟩).fields = [2, 3, 1, 0, 1, 0, 1, 0] ∧
      ((NoticeBody.faultOpened 9 .feederLoss (.domain 7 .feeder) (some 2) 5 1 1 0 false).fields).drop 5 =
        [1, 2, 0, 0, 0, 5, 0, 1, 0, 1, 0, 0] := by decide +kernel
/-- R12: an entry of age 3 not heard is removed. -/
theorem test_aging_removes :
    (after .agingTick { site with
      learned := [(48, ⟨3, 0, .dark, 3, false⟩)], tally := newTally 0 }).learned = [] := by decide +kernel

end Sys2Proof.Tests
end

/-! RESYNC goes in hand (R61): what the clauses of its owning rule answer, what settling does to a request in
hand and to a pending CLEAR, and O52. -/

namespace Sys2Proof.Machine

/-! ## A request that goes in hand -/

/-- Settling advances only answered requests: one in hand at the tail of the buffer stays as it is. -/
theorem advanced_getLast?_inHand {b c : List Entry} {tag : Byte} {r : Request} (h : List.Forall₂ Entry.advanced b c)
    (hb : b.getLast? = some ⟨tag, r, .inHand⟩) : c.getLast? = some ⟨tag, r, .inHand⟩ := by
  have hrev := List.forall₂_reverse_iff.mpr h
  rw [← List.head?_reverse] at hb ⊢
  generalize b.reverse = b' at hrev hb
  generalize c.reverse = c' at hrev
  cases hrev with
  | nil => cases hb
  | @cons x y _ _ hxy _ =>
    obtain ⟨tag', req', cond'⟩ := y
    obtain rfl : x = ⟨tag, r, .inHand⟩ := Option.some.inj hb
    obtain ⟨rfl, rfl, rfl | ⟨_, hanswered, -⟩⟩ := hxy
    · rfl
    · cases hanswered

/-- A request taken at once and not answered stands last in the buffer, in hand, and what follows is the settling of
the state that the taking left. -/
theorem State.request_inHand (s : State) (tag : Byte) (r : Request) (hl : s.Listens) {s1 : State}
    (ht : s.counted.take r = (s1, none)) :
    s.request tag r = (s1.buffer ⟨tag, r, .inHand⟩).settle ∧
      (s.request tag r).link.buffer.getLast? = some ⟨tag, r, .inHand⟩ := by
  obtain ⟨hroom, hrestart⟩ := hl
  have harrive : s.arrive tag r = s1.buffer ⟨tag, r, .inHand⟩ := by
    have hcounted : (s.modLink fun l => { l with good := inc16 l.good }) = s.counted := rfl
    simp [State.arrive, hcounted, hroom, hrestart, State.takeIntoBuffer, ht, conditionAfter]
  have hreq : s.request tag r = (s1.buffer ⟨tag, r, .inHand⟩).settle := by rw [State.request, harrive]
  refine ⟨hreq, ?_⟩
  rw [hreq]
  exact advanced_getLast?_inHand (State.settle_buffer _) (by simp [State.buffer])

/-! ## The bus while the part settles -/

theorem State.syncWindowFlag_riser (s : State) : s.syncWindowFlag.riser = s.riser := by
  unfold State.syncWindowFlag
  split <;> split <;> rfl

theorem State.beginNotice_riser (s : State) : s.beginNotice.riser = s.riser := by
  unfold State.beginNotice
  split
  · rfl
  · split <;> rfl

theorem State.beginOwn_riser (s : State) : s.beginOwn.riser = s.riser := by
  unfold State.beginOwn
  split
  · rfl
  · split
    · rfl
    · exact s.beginNotice_riser

theorem State.beginReady_riser (s : State) : s.beginReady.riser = s.riser := by
  unfold State.beginReady
  split
  · rfl
  · split
    · rfl
    · exact s.beginOwn_riser

/-- The transmitter does not touch the riser bus. -/
theorem State.txKick_riser (s : State) : s.txKick.riser = s.riser := by
  unfold State.txKick
  split
  · rfl
  · obtain ⟨k, hround⟩ := s.endRound_cases
    rw [State.beginReady_riser, hround]; rfl

/-- With the bus free, a pending CLEAR is the first thing the scheduler starts (R61). -/
theorem State.schedule_txn_of_pendingClear {s : State} {scope : Scope} (hh : s.halted = false)
    (hbus : s.riser.txn = none) (hp : s.sched.pendingClear = some scope) :
    s.schedule.riser.txn = some ⟨.clear scope, 0, .toSend, 0, false⟩ := by
  simp [State.schedule, hh, hbus, hp, State.startTxn]

/-- A command that ends with the bus free and a CLEAR pending leaves that CLEAR on the bus. -/
theorem State.settle_txn_of_pendingClear {s : State} {scope : Scope} (hh : s.halted = false)
    (hbus : s.riser.txn = none) (hp : s.sched.pendingClear = some scope) :
    s.settle.riser.txn = some ⟨.clear scope, 0, .toSend, 0, false⟩ := by
  have hstill : s.syncWindowFlag.observeLine.still = s.still := by
    rw [State.observeLine_still, State.syncWindowFlag_still]
  have hfree : s.syncWindowFlag.observeLine.riser.txn = none := by
    simp [State.observeLine, State.syncWindowFlag_riser, hbus]
  rw [State.settle, State.txKick_riser]
  exact State.schedule_txn_of_pendingClear ((State.halted_of_still hstill).trans hh) hfree
    ((State.pendingClear_of_still hstill).trans hp)

/-! ## RESYNC -/

/-- The type, group or floor that no scope has (R61, R182). -/
theorem scopeOf_eq_none {ty w : Byte}
    (h : 2 < ty.toNat ∨ (ty = 1#8 ∧ 7 < w.toNat) ∨ (ty = 2#8 ∧ 63 < w.toNat)) :
    scopeOf ty.toNat w.toNat = none := by
  obtain hty | ⟨rfl, hw⟩ | ⟨rfl, hw⟩ := h
  · unfold scopeOf
    split
    · omega
    · omega
    · omega
    · rfl
  · simpa [scopeOf] using hw
  · simpa [scopeOf] using hw

theorem State.resync_inHand {s : State} {ty w : Nat} {scope : Scope} (hsc : scopeOf ty w = some scope)
    (hp : s.sched.pendingClear = none) :
    s.resync ty w = (s.modSched fun c => { c with pendingClear := some scope }, none) := by
  simp [State.resync, hsc, hp]

theorem State.resync_busy {s : State} {ty w : Nat} {scope : Scope} (hsc : scopeOf ty w = some scope)
    (hp : s.sched.pendingClear ≠ none) : s.resync ty w = (s, some (.fail .busy)) := by
  simp [State.resync, hsc, Option.isSome_iff_ne_none.mpr hp]

theorem State.resync_outOfRange {s : State} {ty w : Nat} (hsc : scopeOf ty w = none) :
    s.resync ty w = (s, some (.fail .outOfRange)) := by
  simp [State.resync, hsc]

/-- Outside HALTED a RESYNC, which a save does not refuse, reaches its owning rule (R174, R61). -/
theorem State.take_resync {s : State} (hh : s.halted = false) (ty w : Byte) :
    s.take (.resync ty w) = s.resync ty.toNat w.toNat :=
  State.take_of_gate (State.gate_of_free hh rfl rfl rfl)

theorem exec_resync (tag ty w : Byte) (s : State) :
    exec (.resync tag ty w) s = .next (s.request tag (.resync ty w)) := rfl

/-- Settles O52: the three clauses of the owning rule, each through the request row, and the start of the pending
CLEAR by the settling that ends the row. -/
theorem resyncGoesInHand : Obligations.ResyncGoesInHand := by
  intro tag ty w s hl hh
  have htake : s.counted.take (.resync ty w) = s.counted.resync ty.toNat w.toNat :=
    State.take_resync (s := s.counted) hh ty w
  refine ⟨fun sc hsc hp => ?inHand, fun sc hsc hp => ?busy, fun hbad => ?outOfRange⟩
  case inHand =>
    obtain ⟨hreq, hlast⟩ := s.request_inHand tag (.resync ty w) hl (htake.trans (State.resync_inHand hsc hp))
    have hstill := congrArg State.still hreq
    rw [State.settle_still] at hstill
    refine ⟨_, exec_resync tag ty w s, hlast, State.pendingClear_of_still hstill, fun hbus => ?_,
      (State.units_of_still hstill :), (State.terms_of_still hstill :), (State.faults_of_still hstill :),
      (State.notices_of_still hstill :)⟩
    rw [hreq]
    exact State.settle_txn_of_pendingClear hh hbus rfl
  case busy =>
    exact completes_of_take (exec_resync tag ty w s) hl (htake.trans (State.resync_busy hsc hp)) rfl
  case outOfRange =>
    exact completes_of_take (exec_resync tag ty w s) hl
      (htake.trans (State.resync_outOfRange (scopeOf_eq_none hbad))) rfl

end Sys2Proof.Machine

/-! Optical power (R66 to R77): the steps of the average and of the level state as their rules write them, what a
change of level offers and leaves alone, and O58. -/

namespace Sys2Proof.Machine

/-! ## Average and level state (R69, R71 to R73) -/

theorem smooth_some (k : Nat) (a p : Int) :
    smooth k (some a) p = a + (if p - a ≠ 0 ∧ (p - a).tdiv (2 ^ k) = 0 then (if 0 < p - a then 1 else -1)
      else (p - a).tdiv (2 ^ k)) := by
  simp only [smooth, smoothStep]
  split
  · split <;> rfl
  · rfl

/-- The three rows of R73 that a point in LOS meets, each with its whole condition. -/
theorem nextLevel_los (j : Judge) (first : Bool) (lows : Nat) (avg : Int) :
    nextLevel j first .los lows avg =
      if lows < j.entry ∧ j.low + j.hyst ≤ avg ∧ j.los + j.hyst ≤ avg then .normal
      else if lows < j.entry ∧ j.los + j.hyst ≤ avg then .low else .los := by
  by_cases hleaves : lows < j.entry ∧ j.los + j.hyst ≤ avg
  · simp [nextLevel, hleaves]
  · have hstays : ¬ (lows < j.entry ∧ j.low + j.hyst ≤ avg ∧ j.los + j.hyst ≤ avg) :=
      fun ⟨hlows, _, havg⟩ => hleaves ⟨hlows, havg⟩
    simp only [nextLevel, hleaves, hstays, if_false]

/-! ## What a change of level offers (R74, R75) -/

/-- The class of a subject's FEEDER_LOW or TAP_LOW (R74). -/
def PowerSubject.lowClass : PowerSubject → NoticeClass
  | .feeder _ => .major
  | .tap .. => .minor

theorem powerClass_powerLow (j : PowerSubject) (d : Nat) (a b : LevelState) (x y : Int) :
    powerClass (.powerLow j d a b x y) = j.lowClass := by
  cases j <;> rfl

theorem powerClass_levelRecovered (j : PowerSubject) (d : Nat) (b : LevelState) (x y : Int) :
    powerClass (.levelRecovered j d b x y) = .info := rfl

/-- The model's choice of notice, written as R74 and R75 give it. -/
theorem State.offerPower_eq_offerLevel (s : State) (j : PowerSubject) (dom : Option Nat) (before after : Point) :
    s.offerPower j dom before after =
      s.offerLevel j.lowClass j dom before.level after.level (after.average.getD 0) (after.last.getD 0) := by
  cases dom with
  | none => rfl
  | some d =>
    cases hb : before.level <;> cases ha : after.level <;>
      simp [State.offerPower, State.offerLevel, powerNotice, hb, ha, powerClass_powerLow, powerClass_levelRecovered]

/-- A power notice changes the notice queues and nothing else. -/
theorem State.offerLevel_modNotices (s : State) (c : NoticeClass) (j : PowerSubject) (dom : Option Nat)
    (before after : LevelState) (avg last : Int) :
    ∃ g, s.offerLevel c j dom before after avg last = s.modNotices g := by
  unfold State.offerLevel
  split
  · exact ⟨id, rfl⟩
  · split
    · exact ⟨_, rfl⟩
    · split
      · exact ⟨_, rfl⟩
      · exact ⟨id, rfl⟩

theorem State.offerLevel_taps_notices (s : State) (T : Table Point) (c : NoticeClass) (j : PowerSubject)
    (dom : Option Nat) (before after : LevelState) (avg last : Int) :
    (({ s with taps := T } : State).offerLevel c j dom before after avg last).notices =
      (s.offerLevel c j dom before after avg last).notices := by
  unfold State.offerLevel
  split
  · rfl
  · split
    · rfl
    · split <;> rfl

/-! ## A tap reading (R68) -/

theorem tapIndex_eq (f : Nat) (tp : Tap) : tapIndex f tp = f * 2 + (if tp = .b then 1 else 0) := by
  cases tp <;> rfl

/-- What a reading makes of its slot's record. -/
def State.tapAfter (s : State) (f : Nat) (tp : Tap) (r : Word16) : Point :=
  (s.tapPoint f tp).takeIn s.settings.tapJudge s.settings.smoothing.toNat true (clampPower r.toInt)

theorem State.tapReading_none (s : State) (f : Nat) (tp : Tap) : s.tapReading f tp 0x8000#16 = s := rfl

theorem State.tapReading_eq (s : State) (f : Nat) (tp : Tap) {r : Word16} (hr : r ≠ 0x8000#16) :
    s.tapReading f tp r = ({ s with taps := Table.put s.taps (tapIndex f tp) (s.tapAfter f tp r) } : State).offerLevel
      .minor (.tap f tp) (s.tapLink f tp) (s.tapPoint f tp).level (s.tapAfter f tp r).level
      ((s.tapAfter f tp r).average.getD 0) ((s.tapAfter f tp r).last.getD 0) := by
  simp only [State.tapReading, hr, if_false, State.offerPower_eq_offerLevel, PowerSubject.lowClass, State.tapAfter]

/-- A reading writes its own slot and the notice queues, and nothing else. -/
theorem State.tapReading_frame (s : State) (f : Nat) (tp : Tap) {r : Word16} (hr : r ≠ 0x8000#16) :
    ∃ g, s.tapReading f tp r =
      ({ s with taps := Table.put s.taps (tapIndex f tp) (s.tapAfter f tp r) } : State).modNotices g := by
  obtain ⟨g, hg⟩ := State.offerLevel_modNotices _ _ _ _ _ _ _ _
  exact ⟨g, (s.tapReading_eq f tp hr).trans hg⟩

theorem State.tapReading_tapPoint (s : State) (f : Nat) (tp : Tap) {r : Word16} (hr : r ≠ 0x8000#16) :
    (s.tapReading f tp r).tapPoint f tp = s.tapAfter f tp r := by
  obtain ⟨g, hg⟩ := s.tapReading_frame f tp hr
  simp [hg, State.tapPoint]

theorem State.tapReading_tapPoint_ne (s : State) (f : Nat) (tp : Tap) (r : Word16) {g : Nat} {tq : Tap}
    (h : tapIndex g tq ≠ tapIndex f tp) : (s.tapReading f tp r).tapPoint g tq = s.tapPoint g tq := by
  by_cases hr : r = 0x8000#16
  · rw [hr, s.tapReading_none]
  · obtain ⟨g, hg⟩ := s.tapReading_frame f tp hr
    simp [hg, State.tapPoint, Table.get?_put_ne _ _ h]

theorem State.tapReading_notices (s : State) (f : Nat) (tp : Tap) {r : Word16} (hr : r ≠ 0x8000#16) :
    (s.tapReading f tp r).notices = (s.offerLevel .minor (.tap f tp) (s.tapLink f tp) (s.tapPoint f tp).level
      (s.tapAfter f tp r).level ((s.tapAfter f tp r).average.getD 0) ((s.tapAfter f tp r).last.getD 0)).notices := by
  rw [s.tapReading_eq f tp hr, State.offerLevel_taps_notices]

/-- Settles O58: the slot's new record by the cases of its average and of its level state, the notice by
`tapReading_notices`, and the rest by the frame of a reading. -/
theorem tapReadingTakesIn : Obligations.TapReadingTakesIn := by
  intro s f tp r
  refine ⟨fun hr => by rw [hr, s.tapReading_none], fun hr p avg lows hp havg hlows => ?reads, fun g tq hne => ?others,
    ?frame⟩
  case reads =>
    have hclamp : clampPower r.toInt = p := hp.symm
    have hsmooth : smooth s.settings.smoothing.toNat (s.tapPoint f tp).average p = avg := by
      rw [havg]
      cases (s.tapPoint f tp).average with
      | none => rfl
      | some a => exact smooth_some _ a p
    have hcount : lowCount s.settings.tapJudge (s.tapPoint f tp).lows p = lows := hlows.symm
    have hafter : s.tapAfter f tp r = ⟨nextLevel s.settings.tapJudge true (s.tapPoint f tp).level lows avg,
        some avg, some p, lows⟩ := by
      simp only [State.tapAfter, Point.takeIn, hclamp, hsmooth, hcount]
    rw [s.tapReading_tapPoint f tp hr, s.tapReading_notices f tp hr, hafter]
    refine ⟨?_, rfl⟩
    cases (s.tapPoint f tp).level with
    | los => rw [nextLevel_los]; rfl
    | unknown => rfl
    | normal => rfl
    | low => rfl
  case others =>
    refine s.tapReading_tapPoint_ne f tp r ?_
    simpa only [tapIndex_eq] using hne
  case frame =>
    by_cases hr : r = 0x8000#16
    · simp [hr, s.tapReading_none]
    · obtain ⟨g, hg⟩ := s.tapReading_frame f tp hr
      simp [hg]

end Sys2Proof.Machine

/-! The settings stay in their ranges (R70, R178): the settings by number as a list, what SETTINGS_WRITE makes of them,
the settings and the store across every request, start and event, and O6. -/

namespace Sys2Proof.Machine

/-! ## The settings by number -/

/-- The 33 settings in number order. -/
def Settings.values (c : Settings) : List Int :=
  [c.gaspHold, c.holdDown, c.windowSplitter, c.windowSegment, c.windowFeeder, c.maxFactor, c.tfSplitter, c.tfSegment,
    c.tfFeeder, c.tpSplitter, c.tpSegment, c.tpFeeder, c.nminSplitter, c.nminSegment, c.nminFeeder, c.clearingLimit,
    c.reminder, c.aging, c.retries, c.silentLimit, c.stepInterval, c.smoothing, c.calibration0, c.calibration1,
    c.calibration2, c.calibration3, c.feederLos, c.feederLow, c.feederHyst, c.tapLos, c.tapLow, c.tapHyst, c.discipline]

theorem Settings.get_eq_values (c : Settings) {n : Nat} (hn : n < 33) : c.get (n + 1) = c.values.getD n 0 := by
  interval_cases n <;> rfl

theorem Settings.values_put (c : Settings) {n : Nat} (hn : n < 33) (v : Int) :
    (c.put (n + 1) v).values = c.values.set n v := by
  interval_cases n <;> rfl

theorem Settings.get_put (c : Settings) {n m : Nat} (hn : n < 33) (hm : m < 33) (v : Int) :
    (c.put (n + 1) v).get (m + 1) = if n = m then v else c.get (m + 1) := by
  have hlen : n < c.values.length := hn
  rw [Settings.get_eq_values _ hm, Settings.get_eq_values _ hm, Settings.values_put _ hn, List.getD_eq_getElem?_getD,
    List.getElem?_set, List.getD_eq_getElem?_getD]
  split <;> simp_all

/-! ## Ranges -/

/-- A value lies in the range of a setting (R178). -/
def inSettingRange (n : Nat) (v : Int) : Prop := (settingRange n).1 ≤ v ∧ v ≤ (settingRange n).2

theorem settingRange_le (n : Nat) : (settingRange n).1 ≤ (settingRange n).2 := by
  unfold settingRange
  split <;> decide

theorem inSettingRange_clamp (n : Nat) (v : Int) : inSettingRange n (clampSetting n v) := by
  have := settingRange_le n
  unfold inSettingRange clampSetting
  omega

/-- Every setting lies in its range; a LOW threshold may still be below the LOS threshold of its kind, as between the
entries of a SETTINGS_WRITE (R70). -/
def Settings.InRanges (c : Settings) : Prop := ∀ n < 33, inSettingRange (n + 1) (c.get (n + 1))

theorem Settings.inRange_iff (c : Settings) :
    c.InRange ↔ c.InRanges ∧ c.feederLos ≤ c.feederLow ∧ c.tapLos ≤ c.tapLow := by
  simp [Settings.InRange, Settings.InRanges, inSettingRange]

theorem Settings.InRanges.put {c : Settings} (h : c.InRanges) {n : Nat} (hn : n < 33) {v : Int}
    (hv : inSettingRange (n + 1) v) : (c.put (n + 1) v).InRanges := by
  intro m hm
  rw [Settings.get_put c hn hm]
  split
  · next hnm => exact hnm ▸ hv
  · exact h m hm

/-- The raise of the LOW thresholds writes two settings, and the ranges of LOW and LOS are the same (R70). -/
theorem Settings.InRanges.raiseLow {c : Settings} (h : c.InRanges) : c.raiseLow.InRange := by
  have hput : c.raiseLow = (c.put 28 (max c.feederLow c.feederLos)).put 31 (max c.tapLow c.tapLos) := rfl
  have hfeeder : inSettingRange 28 (max c.feederLow c.feederLos) := by
    have hlos : inSettingRange 27 c.feederLos := h 26 (by decide)
    have hlow : inSettingRange 28 c.feederLow := h 27 (by decide)
    simp only [inSettingRange, settingRange] at *
    omega
  have htap : inSettingRange 31 (max c.tapLow c.tapLos) := by
    have hlos : inSettingRange 30 c.tapLos := h 29 (by decide)
    have hlow : inSettingRange 31 c.tapLow := h 30 (by decide)
    simp only [inSettingRange, settingRange] at *
    omega
  refine (Settings.inRange_iff _).mpr ⟨?_, Int.le_max_right .., Int.le_max_right ..⟩
  rw [hput]
  exact (h.put (n := 27) (by decide) hfeeder).put (n := 30) (by decide) htap

theorem defaultSettings_inRange : defaultSettings.InRange := by decide

/-! ## SETTINGS_WRITE -/

theorem State.applySetting_settings (s : State) (n : Nat) (v : Int) :
    (s.applySetting n v).settings = s.settings.put n v := by
  unfold State.applySetting
  split
  · rfl
  · dsimp only; split <;> rfl
  · rfl
  · dsimp only; split <;> rfl
  · rfl

theorem State.applySetting_store (s : State) (n : Nat) (v : Int) : (s.applySetting n v).store = s.store := by
  unfold State.applySetting
  split
  · rfl
  · dsimp only; split <;> rfl
  · rfl
  · dsimp only; split <;> rfl
  · rfl

/-- The entries of a SETTINGS_WRITE, applied one after another, keep every setting in its range, and the store. -/
theorem applySettings_inRanges (es : List (Nat × Int)) (hes : ∀ e ∈ es, 1 ≤ e.1 ∧ e.1 ≤ 33) (s : State)
    (h : s.settings.InRanges) :
    (es.foldl (fun s e => s.applySetting e.1 (clampSetting e.1 e.2)) s).settings.InRanges ∧
      (es.foldl (fun s e => s.applySetting e.1 (clampSetting e.1 e.2)) s).store = s.store := by
  induction es generalizing s with
  | nil => exact ⟨h, rfl⟩
  | cons e es ih =>
    obtain ⟨hlo, hhi⟩ := hes e (by simp)
    obtain ⟨n, hn⟩ : ∃ n, e.1 = n + 1 := ⟨e.1 - 1, by omega⟩
    have hput : (s.applySetting e.1 (clampSetting e.1 e.2)).settings.InRanges := by
      rw [State.applySetting_settings, hn]
      exact h.put (by omega) (inSettingRange_clamp _ _)
    obtain ⟨hranges, hstore⟩ := ih (fun e he => hes e (by simp [he])) _ hput
    exact ⟨hranges, hstore.trans (s.applySetting_store ..)⟩

theorem settingsEntriesOk_numbers {es : List (Nat × Int)} (h : settingsEntriesOk es = true) :
    ∀ e ∈ es, 1 ≤ e.1 ∧ e.1 ≤ 33 := by
  intro e he
  simp only [settingsEntriesOk, Bool.and_eq_true, List.all_eq_true, decide_eq_true_eq] at h
  obtain ⟨_, hall⟩ := h
  exact (hall e he).1

theorem State.SettingsOk.settingsWrite {s : State} (h : s.SettingsOk) (entries : List (Byte × Word32)) :
    (s.settingsWrite entries).1.SettingsOk := by
  unfold State.settingsWrite
  dsimp only
  split
  · next hok =>
    obtain ⟨hranges, hstore⟩ := applySettings_inRanges (entries.map settingEntry) (settingsEntriesOk_numbers hok) s
      ((Settings.inRange_iff _).mp h.inForce).1
    exact ⟨hranges.raiseLow, hstore ▸ h.store⟩
  · exact h

/-! ## The settings and the store across what leaves both alone -/

/-- All that the ranges of the settings speak of: the settings in force and the configuration store. -/
def State.stored (s : State) : Settings × Store := (s.settings, s.store)

theorem State.SettingsOk.of_stored {s t : State} (h : s.SettingsOk) (e : t.stored = s.stored) : t.SettingsOk := by
  have hsettings : t.settings = s.settings := congrArg Prod.fst e
  have hstore : t.store = s.store := congrArg Prod.snd e
  exact ⟨hsettings ▸ h.inForce, hstore ▸ h.store⟩

theorem State.stored_of_kept {s t : State} (h : t.kept = s.kept) : t.stored = s.stored :=
  Prod.ext (State.settings_of_kept h) (State.store_of_kept h)

theorem State.stored_of_still {s t : State} (h : t.still = s.still) : t.stored = s.stored :=
  Prod.ext (State.settings_of_still h) (State.store_of_still h)

theorem State.SettingsOk.of_kept {s t : State} (h : s.SettingsOk) (e : t.kept = s.kept) : t.SettingsOk :=
  h.of_stored (State.stored_of_kept e)

theorem State.SettingsOk.settle {s : State} (h : s.SettingsOk) : s.settle.SettingsOk :=
  h.of_stored (State.stored_of_still s.settle_still)

theorem State.SettingsOk.modLink {s : State} (h : s.SettingsOk) (f : HostLink → HostLink) :
    (s.modLink f).SettingsOk := h.of_stored rfl

theorem State.SettingsOk.unlessHalted {s : State} (h : s.SettingsOk) {f : State → State}
    (hf : ∀ s : State, (f s).kept = s.kept) : (s.unlessHalted f).SettingsOk := h.of_kept (s.unlessHalted_kept hf)

/-! ## Requests -/

theorem State.checked_stored (s : State) (checks : List (Bool × Status)) (run : State → State × Reply)
    (h : (run s).1.stored = s.stored) : (s.checked checks run).1.stored = s.stored := by
  unfold State.checked
  split
  · rfl
  · exact h

theorem State.withFault_stored (s : State) (id : Nat) (run : FaultRecord → State × Reply)
    (h : ∀ f, (run f).1.stored = s.stored) : (s.withFault id run).1.stored = s.stored := by
  unfold State.withFault
  split
  · rfl
  · split
    · rfl
    · exact h _

theorem State.setWatch_stored (s : State) (addr : Nat) (v : Bool) : (s.setWatch addr v).stored = s.stored := rfl

theorem State.setMasked_stored (s : State) (addr : Nat) (v : Bool) : (s.setMasked addr v).stored = s.stored := by
  unfold State.setMasked
  split
  · rfl
  · split
    · rfl
    · dsimp only
      split
      · exact (State.stored_of_kept (State.offerTerminalOff_kept ..)).trans rfl
      · rfl

theorem State.terminalWrite_stored (s : State) (addr dom : Nat) (offClass : Byte) (notify : Bool) (label : Word16)
    (masked watch : Bool) : (s.terminalWrite addr dom offClass notify label masked watch).1.stored = s.stored := by
  refine s.checked_stored _ _ ?_
  dsimp only
  split
  · rfl
  · exact State.setMasked_stored ..

theorem State.terminalRead_stored (s : State) (addr : Nat) : (s.terminalRead addr).1.stored = s.stored := by
  unfold State.terminalRead
  split
  · rfl
  · split <;> rfl

theorem State.learnedList_stored (s : State) (start : Nat) : (s.learnedList start).1.stored = s.stored := by
  unfold State.learnedList
  split <;> rfl

theorem State.domainWrite_stored (s : State) (id level : Nat) (parent channel : Option Nat) (tap : Option (Nat × Nat)) :
    (s.domainWrite id level parent channel tap).1.stored = s.stored := by
  unfold State.domainWrite
  split
  · rfl
  · exact s.checked_stored _ _ rfl

theorem State.domainRead_stored (s : State) (id : Nat) : (s.domainRead id).1.stored = s.stored := by
  unfold State.domainRead
  split
  · rfl
  · split <;> rfl

theorem State.floorUnitWrite_stored (s : State) (floor : Nat) : (s.floorUnitWrite floor).1.stored = s.stored := by
  unfold State.floorUnitWrite
  split
  · rfl
  · split <;> rfl

theorem State.floorUnitRead_stored (s : State) (floor : Nat) : (s.floorUnitRead floor).1.stored = s.stored := by
  unfold State.floorUnitRead
  split <;> rfl

theorem State.matchRequest_stored (s : State) (first last : Nat) (care pattern : Byte) (states : Option Word16)
    (mode : Nat) : (s.matchRequest first last care pattern states mode).1.stored = s.stored := by
  unfold State.matchRequest
  split
  · rfl
  · split <;> rfl

theorem State.bulkMasked_stored (s : State) (addr : Nat) (t : Terminal) (v : Bool) (c : BulkCounts) :
    (s.bulkMasked addr t v c).1.stored = s.stored := by
  unfold State.bulkMasked
  split
  · rfl
  · exact s.setMasked_stored addr v

theorem State.bulkWatch_stored (s : State) (addr : Nat) (t : Terminal) (v : Bool) (c : BulkCounts) :
    (s.bulkWatch addr t v c).1.stored = s.stored := by
  unfold State.bulkWatch
  split
  · rfl
  · exact s.setWatch_stored addr v

theorem State.bulkAddr_stored (s : State) (attrs : Byte) (op : BulkOp) (values : Byte) (addr : Nat) (c : BulkCounts) :
    (s.bulkAddr attrs op values addr c).1.stored = s.stored := by
  unfold State.bulkAddr
  split
  · rfl
  · dsimp only
    split <;> split <;> simp only [State.bulkWatch_stored, State.bulkMasked_stored]

theorem State.bulkApply_stored (s : State) (attrs : Byte) (op : BulkOp) (values : Byte) (selection : List Nat) :
    (s.bulkApply attrs op values selection).1.stored = s.stored := by
  have hfold : ∀ (l : List Nat) (acc : State × BulkCounts),
      (l.foldl (fun acc a => acc.1.bulkAddr attrs op values a acc.2) acc).1.stored = acc.1.stored := by
    intro l
    induction l with
    | nil => exact fun _ => rfl
    | cons a l ih => exact fun acc => (ih _).trans (State.bulkAddr_stored ..)
  exact hfold selection (s, ⟨0, 0, 0, 0⟩)

theorem State.bulkUpdate_stored (s : State) (source : Nat) (attrs : Byte) (op : Nat) (values : Byte) (first last : Nat)
    (bitmap : List Byte) : (s.bulkUpdate source attrs op values first last bitmap).1.stored = s.stored := by
  unfold State.bulkUpdate
  split
  · exact State.bulkApply_stored ..
  · exact s.checked_stored _ _ (State.bulkApply_stored ..)
  · rfl

theorem State.faultList_stored (s : State) (start : Nat) : (s.faultList start).1.stored = s.stored := by
  unfold State.faultList
  split <;> rfl

theorem State.faultClear_stored (s : State) (id : Nat) : (s.faultClear id).1.stored = s.stored :=
  s.withFault_stored id _ fun _ => State.stored_of_kept (s.clearFault_kept id)

theorem State.decideNow_stored (s : State) (id : Nat) : (s.decideNow id).1.stored = s.stored := by
  unfold State.decideNow
  split
  · rfl
  · split
    · rfl
    · split
      · next hclose => exact State.stored_of_kept (State.closeWindow_kept hclose)
      · rfl

theorem State.readChannel_stored (s : State) (channel : Nat) : (s.readChannel channel).1.stored = s.stored := by
  unfold State.readChannel
  split <;> rfl

theorem State.readFloorPower_stored (s : State) (floor : Nat) : (s.readFloorPower floor).1.stored = s.stored := by
  unfold State.readFloorPower
  split
  · rfl
  · split <;> rfl

theorem State.powerRead_stored (s : State) (type sel : Nat) : (s.powerRead type sel).1.stored = s.stored := by
  unfold State.powerRead
  split
  · exact s.readChannel_stored sel
  · exact s.readFloorPower_stored sel
  · rfl

theorem State.countersRead_stored (s : State) (sel : Nat) : (s.countersRead sel).1.stored = s.stored := by
  unfold State.countersRead
  split
  · rfl
  · split
    · rfl
    · split <;> rfl

theorem State.resync_stored (s : State) (type which : Nat) : (s.resync type which).1.stored = s.stored := by
  unfold State.resync
  split
  · rfl
  · split <;> rfl

/-- CONFIG_SAVE puts a copy of the settings in force into the store, and leaves no image in the image area (R185). -/
theorem State.SettingsOk.beginSave {s : State} (h : s.SettingsOk) : s.beginSave.SettingsOk := by
  refine ⟨h.inForce, fun i crc hflash => ?_, fun i hsaving => ?_⟩
  · cases hflash
  · cases hsaving
    exact h.inForce

/-- Only SETTINGS_WRITE and CONFIG_SAVE touch the settings or the store. -/
theorem State.SettingsOk.carryOut {s : State} (h : s.SettingsOk) (r : Request) : (s.carryOut r).1.SettingsOk := by
  cases r with
  | settingsWrite entries => exact h.settingsWrite entries
  | configSave => exact h.beginSave
  | identify => exact h
  | terminalWrite => exact h.of_stored (State.terminalWrite_stored ..)
  | terminalRemove => exact h.of_stored (s.checked_stored _ _ rfl)
  | terminalRead => exact h.of_stored (State.terminalRead_stored ..)
  | learnedList => exact h.of_stored (State.learnedList_stored ..)
  | domainWrite => exact h.of_stored (State.domainWrite_stored ..)
  | domainRemove => exact h.of_stored (s.checked_stored _ _ rfl)
  | domainRead => exact h.of_stored (State.domainRead_stored ..)
  | floorUnitWrite => exact h.of_stored (State.floorUnitWrite_stored ..)
  | floorUnitRemove => exact h.of_stored (s.checked_stored _ _ rfl)
  | floorUnitRead => exact h.of_stored (State.floorUnitRead_stored ..)
  | settingsRead => exact h
  | matchTerminals => exact h.of_stored (State.matchRequest_stored ..)
  | bulkUpdate => exact h.of_stored (State.bulkUpdate_stored ..)
  | faultList => exact h.of_stored (State.faultList_stored ..)
  | faultRead => exact h.of_stored (s.withFault_stored _ _ fun _ => rfl)
  | faultAck => exact h.of_stored (s.withFault_stored _ _ fun _ => rfl)
  | faultClear => exact h.of_stored (State.faultClear_stored ..)
  | decideNow => exact h.of_stored (State.decideNow_stored ..)
  | powerRead => exact h.of_stored (State.powerRead_stored ..)
  | countersRead => exact h.of_stored (State.countersRead_stored ..)
  | noticeMaskWrite => exact h.of_stored rfl
  | resync => exact h.of_stored (State.resync_stored ..)
  | softRestart => exact h.of_stored rfl
  | unknownKind => exact h
  | badLength => exact h
  | badChoice => exact h

theorem State.SettingsOk.take {s : State} (h : s.SettingsOk) (r : Request) : (s.take r).1.SettingsOk := by
  unfold State.take
  split
  · exact h
  · exact h.carryOut r

theorem State.SettingsOk.takeIntoBuffer {s : State} (h : s.SettingsOk) (tag : Byte) (r : Request) :
    (s.takeIntoBuffer tag r).SettingsOk :=
  (h.take r).modLink fun l => { l with buffer := l.buffer ++ [⟨tag, r, conditionAfter (s.take r).2⟩] }

theorem State.SettingsOk.arrive {s : State} (h : s.SettingsOk) (tag : Byte) (r : Request) :
    (s.arrive tag r).SettingsOk := by
  unfold State.arrive
  split
  · exact h.modLink _
  · dsimp only
    split
    · exact (h.modLink _).modLink _
    · exact (h.modLink _).takeIntoBuffer tag r

theorem State.SettingsOk.request {s : State} (h : s.SettingsOk) (tag : Byte) (r : Request) :
    (s.request tag r).SettingsOk := (h.arrive tag r).settle

/-! ## The receiver -/

theorem State.SettingsOk.judgeFrame {s : State} (h : s.SettingsOk) (bytes : List Byte) :
    (s.judgeFrame bytes).SettingsOk := by
  unfold State.judgeFrame
  dsimp only
  split
  · split
    · exact (h.modLink _).arrive _ _
    · exact h.modLink _
  · exact (h.modLink _).modLink _

theorem State.SettingsOk.frameByte {s : State} (h : s.SettingsOk) (bytes : List Byte) (byte : Byte) :
    (s.frameByte bytes byte).SettingsOk := by
  unfold State.frameByte
  split
  · split <;> exact h.modLink _
  · dsimp only
    split
    · exact h.judgeFrame _
    · exact h.modLink _

theorem State.SettingsOk.hostByte {s : State} (h : s.SettingsOk) (byte : Byte) (stopOk : Bool) :
    (s.hostByte byte stopOk).SettingsOk := by
  unfold State.hostByte
  split
  · split
    · exact h.modLink _
    · exact h
  · split
    · exact h.frameByte _ byte
    · exact h.modLink _

theorem State.SettingsOk.hostBytes {s : State} (h : s.SettingsOk) (bytes : List Byte) :
    (s.hostBytes bytes).SettingsOk := by
  unfold State.hostBytes
  induction bytes generalizing s with
  | nil => exact h
  | cons b bytes ih => exact ih (h.hostByte b true)

theorem State.SettingsOk.gapTimeout {s : State} (h : s.SettingsOk) : s.gapTimeout.SettingsOk := by
  unfold State.gapTimeout
  split
  · exact h
  · split
    · exact h.modLink _
    · exact h

/-! ## Frames, the save, HALTED and the starts -/

theorem State.frameEnds_stored (s : State) : s.frameEnds.stored = s.stored := by
  unfold State.frameEnds
  dsimp only
  split <;> rfl

theorem State.cutFrame_stored (s : State) : s.cutFrame.stored = s.stored := by
  unfold State.cutFrame
  dsimp only
  split <;> rfl

theorem State.clearEnds_stored (s : State) : s.clearEnds.stored = s.stored := by
  unfold State.clearEnds
  split
  · rfl
  · split
    · split
      · rfl
      · split
        · rfl
        · exact (State.stored_of_kept (State.endTxn_kept ..)).trans rfl
    · rfl

/-- The save writes the copy that it carries (R185). -/
theorem State.SettingsOk.saveCompletes {s : State} (h : s.SettingsOk) : s.saveCompletes.SettingsOk := by
  unfold State.saveCompletes
  split
  · exact h
  · next i hsaving =>
    refine ⟨h.inForce, fun j crc hflash => ?_, fun j hnone => by cases hnone⟩
    cases hflash
    exact h.store.2 i hsaving

/-- The entry to HALTED drops the copy of a save, and leaves the image area (R186). -/
theorem State.SettingsOk.enterHalted {s : State} (h : s.SettingsOk) : s.enterHalted.SettingsOk := by
  unfold State.enterHalted
  split
  · exact h
  · obtain ⟨hforce, hflash, -⟩ := h.of_stored s.cutFrame_stored
    exact ⟨hforce, hflash, fun i hnone => by cases hnone⟩

theorem State.SettingsOk.readSupply {s : State} (h : s.SettingsOk) (fails : Bool) :
    (s.readSupply fails).SettingsOk := by
  unfold State.readSupply
  split
  · exact h.enterHalted
  · exact h

/-- A start puts the settings of its image in force, with an image area whose image is in range. -/
theorem startState_settingsOk {i : Image} {flash : Flash} (hi : i.settings.InRange)
    (hflash : ∀ j crc, flash = .written j crc → j.settings.InRange) (rate : LineRate) (saveCount : Nat) (loaded : Bool)
    (fmus : Table Fmu) (pending : List Instr) :
    (startState i rate ⟨flash, none, saveCount, loaded⟩ fmus pending).SettingsOk :=
  ⟨hi, hflash, fun _ hnone => by cases hnone⟩

theorem Flash.load_written {f : Flash} {i : Image} (h : f.load = some i) : ∃ crc, f = .written i crc := by
  unfold Flash.load at h
  split at h
  · cases h
  · cases h
  · next j crc =>
    split at h
    · cases h; exact ⟨crc, rfl⟩
    · cases h

theorem State.SettingsOk.coldStart {s : State} (h : s.SettingsOk) (kind : StartKind) (strap1 strap0 pfail : Bool) :
    (s.coldStart kind strap1 strap0 pfail).SettingsOk := by
  unfold State.coldStart
  dsimp only
  split
  · next i hload =>
    obtain ⟨crc, hwritten⟩ := Flash.load_written hload
    have hstart := startState_settingsOk (h.store.1 i crc hwritten) h.store.1 (rateOf strap1 strap0) i.saveCount true
      s.fmus s.pending
    exact (hstart.of_kept (State.offer_kept ..)).readSupply pfail
  · have hstart := startState_settingsOk (i := emptyImage) defaultSettings_inRange h.store.1 (rateOf strap1 strap0) 0
      false s.fmus s.pending
    exact ((hstart.of_kept (State.offer_kept ..)).of_kept (State.offer_kept ..)).readSupply pfail

theorem State.SettingsOk.restartIfDue {s : State} (h : s.SettingsOk) (pfail : Bool) :
    (s.restartIfDue pfail).SettingsOk := by
  unfold State.restartIfDue
  split
  · have hstart := startState_settingsOk (i := s.image s.store.saveCount) h.inForce h.store.1 s.link.rate
      s.store.saveCount s.store.imageLoaded s.fmus s.pending
    exact (hstart.of_kept (State.offer_kept ..)).readSupply pfail
  · exact h

theorem State.tick_stored (s : State) : s.tick.stored = s.stored := by
  unfold State.tick State.unlessHalted
  split <;> rfl

/-! ## Every command -/

theorem State.SettingsOk.exec {s t : State} (h : s.SettingsOk) (c : Instr) (he : exec c s = .next t) :
    t.SettingsOk := by
  cases c <;> cases he
  case hostFrameReceived bytes => exact (h.hostBytes _).settle
  case hostFrameGapTimeout => exact h.gapTimeout.settle
  case hostByteReceived byte stopOk => exact (h.hostByte byte stopOk).settle
  case frameBoundary => exact (h.of_stored s.frameEnds_stored).settle
  case configSaveComplete => exact h.saveCompletes.settle
  case softRestartPerformed pfail => exact (h.restartIfDue pfail).settle
  case powerOnReset strap1 strap0 pfail => exact (h.coldStart _ strap1 strap0 pfail).settle
  case pinReset strap1 strap0 pfail => exact (h.coldStart _ strap1 strap0 pfail).settle
  case supplyFail => exact h.enterHalted.settle
  case clearTransactionEnd => exact (h.of_stored s.clearEnds_stored).settle
  case attentionAsserted => exact (h.unlessHalted fun s => s.attention_kept).settle
  case gapTimerExpiry => exact (h.unlessHalted fun s => s.gapExpires_kept).settle
  case stepTimerExpiry => exact (h.unlessHalted fun s => s.stepExpires_kept).settle
  case feederSample => exact (h.unlessHalted fun s => s.feederSamples_kept ..).settle
  case gaspHoldExpiry => exact (h.unlessHalted fun s => s.gaspHoldExpires_kept _).settle
  case holdDownExpiry => exact (h.unlessHalted fun s => s.holdDownExpires_kept _).settle
  case agingTick => exact (h.unlessHalted fun s => s.agingExpires_kept).settle
  case windowTimerExpiry => exact (h.unlessHalted fun s => s.windowEnds_kept _).settle
  case clearingTimerExpiry => exact (h.unlessHalted fun s => s.clearingExpires_kept _).settle
  case reminderTimerExpiry => exact (h.unlessHalted fun s => s.reminderExpires_kept _).settle
  case poll => exact (h.of_kept (State.sendIf_kept ..)).settle
  case status => exact (h.of_kept (State.sendIf_kept ..)).settle
  case clear => exact (h.of_kept (State.sendIf_kept ..)).settle
  case riserBusy => exact (h.of_kept (State.sendBusy_kept ..)).settle
  case replyWindowExpiry => exact (h.of_kept s.windowExpires_kept).settle
  case riserReplyReceived => exact (h.of_kept (State.replyEnds_kept ..)).settle
  case replyAbandoned => exact (h.of_kept s.abandonReply_kept).settle
  case riserCharacterReceived => exact (h.of_kept s.riserCharacter_kept).settle
  case fmuEventRecorded => exact (h.of_kept (State.fmuRecords_kept ..)).settle
  case fmuStart => exact (h.of_kept (State.fmuStarts_kept ..)).settle
  all_goals exact h.request _ _

/-- Settles O6: with no command waiting by what a millisecond leaves alone, else by the command's own case. -/
theorem settingsStayInRange : Obligations.SettingsStayInRange := by
  intro s t h hstep
  cases hq : s.pending with
  | nil =>
    simp only [step, hq] at hstep
    cases hstep
    exact h.of_stored s.tick_stored
  | cons c rest =>
    simp only [step, hq] at hstep
    have hs : ({ s with pending := rest } : State).SettingsOk := h.of_stored rfl
    exact hs.exec c hstep

end Sys2Proof.Machine

/-! A lost feeder (R76, R128): reading a table by its entries, the free fault id (R132), what the fold of held members,
the closing of windows and the links make of the terminals, windows and records, and what a feeder loss leaves alone. -/

namespace Sys2Proof.Machine

/-! ## Tables read by their entries -/

section Tables

variable {α β : Type}

theorem Table.get?_of_mem {t : Table α} (hd : Table.distinct t) {k : Nat} {v : α} (h : (k, v) ∈ t) :
    Table.get? t k = some v := by
  induction t with
  | nil => cases h
  | cons e t ih =>
    obtain ⟨hnew, hd⟩ := List.nodup_cons.mp hd
    rw [Table.get?_cons]
    rcases List.mem_cons.mp h with rfl | h
    · simp
    · have hne : e.1 ≠ k := fun hek => hnew (hek ▸ List.mem_map_of_mem (f := Prod.fst) h)
      rw [if_neg hne, ih hd h]

theorem Table.get?_eq_some_iff {t : Table α} (hd : Table.distinct t) {k : Nat} {v : α} :
    Table.get? t k = some v ↔ (k, v) ∈ t := ⟨Table.mem_of_get?, Table.get?_of_mem hd⟩

theorem Table.distinct_of_rising {t : Table α} (h : Table.rising t = true) : Table.distinct t :=
  ((Table.rising_iff t).mp h).imp Nat.ne_of_lt

theorem Table.mem_keysWhere {t : Table α} {p : Nat → α → Bool} {k : Nat} :
    k ∈ Table.keysWhere t p ↔ ∃ v, (k, v) ∈ t ∧ p k v = true := by
  simp [Table.keysWhere]

/-- Keys chosen by a part of their records are chosen by the table of those parts. -/
theorem Table.keysWhere_map (t : Table α) (g : α → β) (p : Nat → β → Bool) :
    Table.keysWhere (t.map fun e => (e.1, g e.2)) p = Table.keysWhere t fun k v => p k (g v) := by
  simp [Table.keysWhere, List.filter_map, Function.comp_def]

theorem Table.get?_map (t : Table α) (g : α → β) (k : Nat) :
    Table.get? (t.map fun e => (e.1, g e.2)) k = (Table.get? t k).map g := by
  induction t with
  | nil => rfl
  | cons e t ih => simp only [List.map_cons, Table.get?_cons, ih, apply_ite (Option.map g), Option.map_some]

theorem Table.get?_append_single (t : Table α) (k j : Nat) (v : α) :
    Table.get? (t ++ [(k, v)]) j = (Table.get? t j).or (if k = j then some v else none) := by
  induction t with
  | nil => simp [Table.get?_cons]
  | cons e t ih =>
    rw [List.cons_append, Table.get?_cons, Table.get?_cons, ih]
    split <;> rfl

theorem Table.get?_eq_none {t : Table α} {k : Nat} (h : k ∉ t.map Prod.fst) : Table.get? t k = none := by
  have hhas : ¬ Table.has t k = true := mt (Table.has_iff_mem_keys t k).mp h
  simpa [Table.has] using hhas

end Tables

/-! ## Changes that commute with a run over keys -/

theorem overKeys_comm {σ : Type} {f : Nat → σ → σ} {g : σ → σ} (h : ∀ k s, f k (g s) = g (f k s)) (keys : List Nat)
    (s : σ) : overKeys keys f (g s) = g (overKeys keys f s) := by
  induction keys generalizing s with
  | nil => rfl
  | cons k keys ih =>
    change overKeys keys f (f k (g s)) = g (overKeys keys f (f k s))
    rw [h, ih]

/-! ## The free fault id (R132) -/

/-- The ids after another, up to the whole ring: 65535 is followed by 1. -/
theorem nextFaultId_iterate (id i : Nat) (hi : i ≤ 65535) :
    nextFaultId^[i] id = if i = 0 then id else if 65535 ≤ id then i
      else if id + i ≤ 65535 then id + i else id + i - 65535 := by
  induction i with
  | zero => rfl
  | succ i ih =>
    have hlast := ih (by omega)
    clear ih
    rw [Function.iterate_succ_apply', if_neg i.succ_ne_zero]
    generalize nextFaultId^[i] id = last at hlast
    unfold nextFaultId
    split_ifs at hlast ⊢ <;> omega

/-- A search that ends on a held id has found every id on its way held. -/
theorem freeFaultId_mem {held : List Nat} {fuel id : Nat} (h : freeFaultId held fuel id ∈ held) :
    ∀ i < fuel, nextFaultId^[i] id ∈ held := by
  induction fuel generalizing id with
  | zero => exact fun i hi => absurd hi (Nat.not_lt_zero i)
  | succ fuel ih =>
    rw [freeFaultId] at h
    split at h
    · next hid =>
      intro i hi
      cases i with
      | zero => exact hid
      | succ i => exact ih h i (by omega)
    · next hid => exact absurd h hid

/-- With fewer than 32 ids held, 32 steps find a free one: the first 32 ids of a search are all different. -/
theorem freeFaultId_not_mem {held : List Nat} (hlen : held.length < 32) (id : Nat) :
    freeFaultId held 32 id ∉ held := by
  intro hmem
  have hnodup : ((List.range 32).map fun i => nextFaultId^[i] id).Nodup := by
    refine List.Nodup.map_on (fun i hi j hj hij => ?_) List.nodup_range
    rw [List.mem_range] at hi hj
    rw [nextFaultId_iterate id i (by omega), nextFaultId_iterate id j (by omega)] at hij
    split_ifs at hij <;> omega
  have hsub : ((List.range 32).map fun i => nextFaultId^[i] id) ⊆ held := by
    intro x hx
    obtain ⟨i, hi, rfl⟩ := List.mem_map.mp hx
    exact freeFaultId_mem hmem i (List.mem_range.mp hi)
  have hle := (List.subperm_of_subset hnodup hsub).length_le
  rw [List.length_map, List.length_range] at hle
  omega

/-! ## What is read of the provisioned fields -/

theorem State.provisioned_of_kept {s t : State} (h : t.kept = s.kept) :
    t.terms.map (fun e => e.2.prov) = s.terms.map fun e => e.2.prov := by
  have hterms := congrArg (fun x : State => x.terms.map fun e => e.2.prov) h
  simpa [State.kept, newTerminal, Function.comp_def] using hterms

theorem State.domainFields_of_kept {s t : State} (h : t.kept = s.kept) :
    t.domains.map (fun e => (e.1, e.2.fields)) = s.domains.map fun e => (e.1, e.2.fields) := by
  have hdomains := congrArg (fun x : State => x.domains.map fun e => (e.1, e.2.fields)) h
  simpa [State.kept, newDomain, Function.comp_def] using hdomains

theorem State.childDomains_of_kept {s t : State} (h : t.kept = s.kept) (id : Nat) :
    t.childDomains id = s.childDomains id := by
  unfold State.childDomains
  rw [← Table.keysWhere_map t.domains Domain.fields fun _ o => o.parent = some id,
    ← Table.keysWhere_map s.domains Domain.fields fun _ o => o.parent = some id, State.domainFields_of_kept h]

theorem State.parentOf_of_kept {s t : State} (h : t.kept = s.kept) (id : Nat) : t.parentOf id = s.parentOf id := by
  have hparent (x : State) : x.parentOf id =
      (Table.get? (x.domains.map fun e => (e.1, e.2.fields)) id).bind DomainFields.parent := by
    rw [Table.get?_map, Option.bind_map]; rfl
  rw [hparent, hparent, State.domainFields_of_kept h]

theorem State.descendants_of_kept {s t : State} (h : t.kept = s.kept) (id : Nat) :
    t.descendants id = s.descendants id := by
  unfold State.descendants
  simp only [State.parentOf_of_kept h]
  rw [← Table.keysWhere_map t.domains Domain.fields fun _ o =>
      decide (o.parent = some id) || decide ((o.parent.bind fun p => s.parentOf p) = some id),
    ← Table.keysWhere_map s.domains Domain.fields fun _ o =>
      decide (o.parent = some id) || decide ((o.parent.bind fun p => s.parentOf p) = some id),
    State.domainFields_of_kept h]

/-! ## A terminal folded into a record (R95) -/

/-- An entry folded into record `x`: held to off, the link set (R95). -/
def Terminal.foldedInto (e : Terminal) (x : Nat) : Terminal := { e.leaveHold with link := some x }

@[simp] theorem Terminal.leaveHold_held (e : Terminal) : e.leaveHold.held = false := by
  cases hst : e.state <;> simp [Terminal.leaveHold, Terminal.held, Terminal.enter, TState.isHeld, hst]

@[simp] theorem Terminal.foldedInto_held (e : Terminal) (x : Nat) : (e.foldedInto x).held = false := e.leaveHold_held

theorem Terminal.leaveHold_of_not_held {e : Terminal} (h : e.held = false) : e.leaveHold = e := by
  cases hst : e.state <;> simp_all [Terminal.leaveHold, Terminal.held, TState.isHeld]

/-- A second fold into the same record changes nothing. -/
theorem Terminal.foldedInto_foldedInto (e : Terminal) (x : Nat) : (e.foldedInto x).foldedInto x = e.foldedInto x := by
  rw [Terminal.foldedInto, Terminal.leaveHold_of_not_held (e.foldedInto_held x)]
  rfl

/-- A held entry that is folded goes to its off state with the cause of its hold (R95, R82). -/
theorem Terminal.foldedInto_of_held {e : Terminal} (h : e.held = true) (x : Nat) : e.foldedInto x = { e with
    state := if e.state = .heldDark then .offDark else .offPower
    lit := false
    prior := none
    lastCause := some (if e.state = .heldDark then .dark else .power)
    link := some x } := by
  cases hst : e.state <;>
    simp_all [Terminal.foldedInto, Terminal.leaveHold, Terminal.held, Terminal.enter, TState.isHeld]

theorem State.foldTerm_term? (s : State) (x a b : Nat) :
    (s.foldTerm x a).term? b = if b = a then (s.term? b).map fun e => e.foldedInto x else s.term? b :=
  Table.get?_modify s.terms a b fun e => { e.leaveHold with link := some x }

theorem State.foldTerm_fault?_ne (s : State) {x z : Nat} (a : Nat) (hz : z ≠ x) :
    (s.foldTerm x a).fault? z = s.fault? z := by
  simp [State.foldTerm, State.fault?, Table.get?_modify_ne _ _ hz]

/-- A run of folds into one record folds the entries it names, each once. -/
theorem foldTerms_term? (keys : List Nat) (s : State) (x b : Nat) :
    (overKeys keys (fun a s => s.foldTerm x a) s).term? b =
      if b ∈ keys then (s.term? b).map fun e => e.foldedInto x else s.term? b := by
  induction keys generalizing s with
  | nil => rfl
  | cons a keys ih =>
    change (overKeys keys (fun a s => s.foldTerm x a) (s.foldTerm x a)).term? b = _
    rw [ih, State.foldTerm_term?]
    by_cases hb : b = a <;> by_cases hm : b ∈ keys <;>
      simp [hb, hm, Function.comp_def, Terminal.foldedInto_foldedInto]

/-! ## The kind and subject of a record -/

/-- What every change of a record keeps of it, while it is open: its kind and its subject. -/
def State.named (s : State) (id : Nat) : Option (FaultKind × Nat) := (s.fault? id).map fun f => (f.kind, f.subject)

theorem State.modFault_named (s : State) (k : Nat) {f : FaultRecord → FaultRecord}
    (hf : ∀ r, ((f r).kind, (f r).subject) = (r.kind, r.subject)) (id : Nat) :
    (s.modFault k f).named id = s.named id := by
  unfold State.named State.fault?
  rw [State.modFault_faults, Table.get?_modify]
  split
  · simp [Function.comp_def, hf]
  · rfl

theorem State.foldTerm_named (s : State) (x a id : Nat) : (s.foldTerm x a).named id = s.named id := by
  rw [State.foldTerm, State.modFault_named]
  · rfl
  · exact fun _ => rfl

theorem State.linkFault_named (s : State) (c x id : Nat) : (s.linkFault c x).named id = s.named id := by
  rw [State.linkFault, State.modFault_named, State.modFault_named] <;> exact fun _ => rfl

/-! ## The domains below a lost feeder (R128 step 2) -/

@[simp] theorem Window.isOpen_quiet : Window.quiet.isOpen = false := rfl

/-- `t` is `s` after the domains `ids` have closed their OPEN windows and folded their held members into record `y`:
no other terminal, window or record has changed. -/
structure State.Lost (s t : State) (y : Nat) (ids : List Nat) : Prop where
  kept   : t.kept = s.kept
  term   : ∀ a, t.term? a = (s.term? a).map fun e =>
    if e.held = true ∧ e.prov.domain ∈ ids ∧ (s.windowOf e.prov.domain).isOpen = true then e.foldedInto y else e
  window : ∀ c, t.windowOf c = if c ∈ ids ∧ (s.windowOf c).isOpen = true then .quiet else s.windowOf c
  others : ∀ z, z ≠ y → t.fault? z = s.fault? z
  named  : ∀ z, t.named z = s.named z

theorem State.Lost.refl (s : State) (y : Nat) : s.Lost s y [] where
  kept := rfl
  term := fun a => by simp
  window := fun c => by simp
  others := fun _ _ => rfl
  named := fun _ => rfl

theorem State.Lost.congr {s t : State} {y : Nat} {ids more : List Nat} (h : s.Lost t y ids)
    (hmem : ∀ c, c ∈ ids ↔ c ∈ more) : s.Lost t y more where
  kept := h.kept
  term := fun a => by simpa only [hmem] using h.term a
  window := fun c => by simpa only [hmem] using h.window c
  others := h.others
  named := h.named

theorem State.Lost.trans {s t u : State} {y : Nat} {ids more : List Nat} (h : s.Lost t y ids) (g : t.Lost u y more) :
    s.Lost u y (ids ++ more) where
  kept := g.kept.trans h.kept
  term := fun a => by
    rw [g.term, h.term, Option.map_map]
    congr 1
    funext e
    simp only [Function.comp_apply, List.mem_append]
    by_cases hfold : e.held = true ∧ e.prov.domain ∈ ids ∧ (s.windowOf e.prov.domain).isOpen = true
    · obtain ⟨hheld, hmem, hopen⟩ := hfold
      simp [hheld, hmem, hopen]
    · rw [if_neg hfold, h.window]
      by_cases hclosed : e.prov.domain ∈ ids ∧ (s.windowOf e.prov.domain).isOpen = true
      · have hnot : e.held ≠ true := fun hheld => hfold ⟨hheld, hclosed⟩
        simp [hnot]
      · rw [if_neg hclosed]
        refine if_congr ?_ rfl rfl
        tauto
  window := fun c => by
    rw [g.window, h.window]
    by_cases hopen : (s.windowOf c).isOpen = true <;> by_cases hmem : c ∈ ids <;> by_cases hmore : c ∈ more <;>
      simp [hopen, hmem, hmore]
  others := fun z hz => (g.others z hz).trans (h.others z hz)
  named := fun z => (g.named z).trans (h.named z)

theorem overKeys_lost {s : State} {y : Nat} {f : Nat → State → State} {ids : Nat → List Nat} (keys : List Nat)
    (h : ∀ k ∈ keys, ∀ t : State, t.kept = s.kept → t.Lost (f k t) y (ids k)) :
    s.Lost (overKeys keys f s) y (keys.flatMap ids) := by
  induction keys generalizing s with
  | nil => exact State.Lost.refl s y
  | cons k keys ih =>
    have hfirst : s.Lost (f k s) y (ids k) := h k (by simp) s rfl
    have hrest : (f k s).Lost (overKeys keys f (f k s)) y (keys.flatMap ids) :=
      ih fun j hj t ht => h j (by simp [hj]) t (ht.trans hfirst.kept)
    exact hfirst.trans hrest

theorem State.windowOf_of_domains {s t : State} (h : t.domains = s.domains) (c : Nat) :
    t.windowOf c = s.windowOf c := by rw [State.windowOf, State.domain?, h]; rfl

theorem State.dropWindow_windowOf (s : State) (id c : Nat) :
    (s.dropWindow id).windowOf c = if c = id ∧ (s.windowOf c).isOpen = true then .quiet else s.windowOf c := by
  unfold State.dropWindow State.windowOf State.domain?
  rw [State.modDomain_domains, Table.get?_modify]
  by_cases hc : c = id
  · cases Table.get? s.domains c with
    | none => simp [hc]
    | some d => by_cases hopen : d.window.isOpen = true <;> simp [hc, hopen]
  · simp [hc]

/-- A SEGMENT of a lost feeder, which has no members of its own, closes its OPEN window. -/
theorem State.dropWindow_lost {s : State} {id : Nat} (y : Nat) (hno : ∀ e ∈ s.terms, e.2.prov.domain ≠ id) :
    s.Lost (s.dropWindow id) y [id] where
  kept := s.dropWindow_kept id
  term := fun a => by
    change s.term? a = _
    cases ha : s.term? a with
    | none => rfl
    | some e =>
      have hne : e.prov.domain ≠ id := hno _ (Table.mem_of_get? ha)
      simp [hne]
  window := fun c => by simp [s.dropWindow_windowOf id c]
  others := fun _ _ => rfl
  named := fun _ => rfl

theorem State.mem_heldMembers {s : State} (hd : Table.distinct s.terms) {a : Nat} {e : Terminal}
    (ha : s.term? a = some e) (id : Nat) : a ∈ s.heldMembers id ↔ e.held = true ∧ e.prov.domain = id := by
  unfold State.heldMembers State.members
  rw [Table.mem_keysWhere]
  simp only [Bool.and_eq_true, decide_eq_true_eq]
  constructor
  · rintro ⟨v, hv, hid, hheld⟩
    obtain rfl : v = e := Option.some.inj ((Table.get?_of_mem hd hv).symm.trans ha)
    exact ⟨hheld, hid⟩
  · exact fun ⟨hheld, hid⟩ => ⟨e, Table.mem_of_get? ha, hid, hheld⟩

/-- A SPLITTER below a lost feeder closes its OPEN window and folds its held members (R128 step 2). -/
theorem State.loseSplitter_lost {s : State} (hd : Table.distinct s.terms) (y id : Nat) :
    s.Lost (s.loseSplitter y id) y [id] := by
  refine ⟨s.loseSplitter_kept y id, fun a => ?term, fun c => ?window, fun z hz => ?others, fun z => ?named⟩ <;>
    unfold State.loseSplitter <;> split
  case term.isTrue hopen =>
    rw [foldTerms_term?]
    change (if a ∈ s.heldMembers id then (s.term? a).map fun e => e.foldedInto y else s.term? a) = _
    cases ha : s.term? a with
    | none => simp
    | some e =>
      simp only [State.mem_heldMembers hd ha]
      by_cases hheld : e.held = true <;> by_cases hid : e.prov.domain = id <;> simp [hheld, hid, hopen]
  case term.isFalse hclosed =>
    cases ha : s.term? a with
    | none => rfl
    | some e => by_cases hid : e.prov.domain = id <;> simp [hid, hclosed]
  case window.isTrue hopen =>
    have hdomains : (overKeys (s.heldMembers id) (fun a s => s.foldTerm y a) (s.dropWindow id)).domains =
        (s.dropWindow id).domains :=
      overKeys_keeps (f := fun a s => s.foldTerm y a) (p := fun t : State => t.domains = (s.dropWindow id).domains)
        (fun _ _ h => h) _ _ rfl
    rw [State.windowOf_of_domains hdomains, s.dropWindow_windowOf]
    simp
  case window.isFalse hclosed =>
    by_cases hc : c = id <;> simp [hc, hclosed]
  case others.isTrue =>
    exact overKeys_keeps (p := fun t : State => t.fault? z = s.fault? z)
      (fun a t h => (t.foldTerm_fault?_ne a hz).trans h) _ _ rfl
  case others.isFalse => rfl
  case named.isTrue =>
    exact overKeys_keeps (p := fun t : State => t.named z = s.named z)
      (fun a t h => (t.foldTerm_named y a z).trans h) _ _ rfl
  case named.isFalse => rfl

/-- A SEGMENT below a lost feeder, then its SPLITTERs (R128 step 2). -/
theorem State.loseSegment_lost {s : State} (hd : Table.distinct s.terms) (y : Nat) {id : Nat}
    (hno : ∀ e ∈ s.terms, e.2.prov.domain ≠ id) : s.Lost (s.loseSegment y id) y (id :: s.childDomains id) := by
  have hsplitters : (s.dropWindow id).Lost (s.loseSegment y id) y ((s.childDomains id).flatMap fun c => [c]) := by
    refine overKeys_lost _ fun c _ t ht => State.loseSplitter_lost ?_ y c
    have hkeys := State.termKeys_of_kept (ht.trans (s.dropWindow_kept id))
    unfold Table.distinct
    rwa [hkeys]
  rw [List.flatMap_singleton'] at hsplitters
  exact (State.dropWindow_lost y hno).trans hsplitters

/-! ## Links below a record (R136) -/

/-- A record linked below record `x`: its notice is not held and no reminder runs (R136). -/
def FaultRecord.linkedUnder (r : FaultRecord) (x : Nat) : FaultRecord :=
  { r with parent := some x, held := false, reminder := none }

theorem State.linkFault_fault?_ne (s : State) (c : Nat) {x z : Nat} (hz : z ≠ x) :
    (s.linkFault c x).fault? z = if z = c then (s.fault? z).map fun r => r.linkedUnder x else s.fault? z := by
  simp only [State.linkFault, State.fault?, State.modFault_faults, Table.get?_modify_ne _ _ hz]
  exact Table.get?_modify s.faults c z fun r => r.linkedUnder x

/-- A run of links below one record links the records it names, each to the same end however often it is named. -/
theorem linkFaults_fault?_ne (keys : List Nat) (s : State) {x z : Nat} (hz : z ≠ x) :
    (overKeys keys (fun c s => s.linkFault c x) s).fault? z =
      if z ∈ keys then (s.fault? z).map fun r => r.linkedUnder x else s.fault? z := by
  induction keys generalizing s with
  | nil => rfl
  | cons c keys ih =>
    change (overKeys keys (fun c s => s.linkFault c x) (s.linkFault c x)).fault? z = _
    rw [ih, State.linkFault_fault?_ne _ _ hz]
    by_cases hc : z = c <;> by_cases hm : z ∈ keys <;>
      simp [hc, hm, Function.comp_def, FaultRecord.linkedUnder]

/-- Links change records only. -/
theorem linkFaults_frame (keys : List Nat) (s : State) (x : Nat) :
    (overKeys keys (fun c s => s.linkFault c x) s).terms = s.terms ∧
    (overKeys keys (fun c s => s.linkFault c x) s).domains = s.domains ∧
    (overKeys keys (fun c s => s.linkFault c x) s).notices = s.notices :=
  overKeys_keeps (f := fun c s => s.linkFault c x)
    (p := fun t : State => t.terms = s.terms ∧ t.domains = s.domains ∧ t.notices = s.notices) (fun _ _ h => h) _ _
    ⟨rfl, rfl, rfl⟩

theorem linkFaults_named (keys : List Nat) (s : State) (x z : Nat) :
    (overKeys keys (fun c s => s.linkFault c x) s).named z = s.named z :=
  overKeys_keeps (f := fun c s => s.linkFault c x) (p := fun t : State => t.named z = s.named z)
    (fun c t h => (t.linkFault_named c x z).trans h) _ _ rfl

/-! ## FAULT_OPENED and the record it announces (R133) -/

theorem State.offerOpened_terms (s : State) (id : Nat) (w : Bool) : (s.offerOpened id w).terms = s.terms := by
  unfold State.offerOpened
  split <;> rfl

theorem State.offerOpened_domains (s : State) (id : Nat) (w : Bool) : (s.offerOpened id w).domains = s.domains := by
  unfold State.offerOpened
  split <;> rfl

theorem State.offerOpened_fault?_ne (s : State) {id z : Nat} (w : Bool) (hz : z ≠ id) :
    (s.offerOpened id w).fault? z = s.fault? z := by
  unfold State.offerOpened
  split
  · rfl
  · simp [State.startReminder, State.fault?, Table.get?_modify_ne _ _ hz]

theorem State.offerOpened_announced {s : State} {id : Nat} (w : Bool) {f : FaultRecord} (h : s.fault? id = some f) :
    ∃ g, (s.offerOpened id w).fault? id = some g ∧ g.kind = f.kind ∧ g.subject = f.subject ∧ g.announced = true := by
  have hget : Table.get? s.faults id = some f := h
  simp only [State.offerOpened, h, State.offer_fault?]
  simp only [State.startReminder, State.fault?, State.modFault_faults, Table.get?_modify_self, hget, Option.map_some,
    Option.some.injEq, exists_eq_left']
  split <;> exact ⟨rfl, rfl, rfl⟩

/-! ## A record that opens (R132, R133) -/

/-- The id that the next record takes (R132). -/
def State.freeId (s : State) : Nat := freeFaultId (s.faults.map Prod.fst) 32 s.faultCtl.nextId

theorem State.freeId_free {s : State} (hlen : s.faults.length < 32) : s.fault? s.freeId = none :=
  Table.get?_eq_none (freeFaultId_not_mem (by rwa [List.length_map]) _)

/-- The state with a new record on a domain, under the free id (R132, R133). -/
def State.withRecord (s : State) (kind : FaultKind) (d : Nat) : State :=
  ({ s with faults := s.faults ++ [(s.freeId, newFault kind d s.now)] }.modFaultCtl fun c =>
    { c with nextId := nextFaultId s.freeId }).modDomain d fun o => { o with window := .decided s.freeId }

theorem State.openFault_room {s : State} (hlen : s.faults.length < 32) {kind : FaultKind} (hk : kind.onDomain = true)
    (d : Nat) : s.openFault kind d = (s.withRecord kind d, some s.freeId) := by
  have hroom : ¬ s.faults.length ≥ 32 := by omega
  simp only [State.openFault, hroom, if_false, hk, if_true]
  rfl

theorem State.withRecord_kept (s : State) (kind : FaultKind) (d : Nat) : (s.withRecord kind d).kept = s.kept := by
  rw [State.withRecord, State.modDomain_kept]
  · rfl
  · exact fun _ => rfl

theorem State.withRecord_term? (s : State) (kind : FaultKind) (d a : Nat) :
    (s.withRecord kind d).term? a = s.term? a := rfl

/-- The subject domain is DECIDED, and no other window changes (R107). -/
theorem State.withRecord_windowOf {s : State} {d : Nat} (hd : (s.domain? d).isSome = true) (kind : FaultKind)
    (c : Nat) : (s.withRecord kind d).windowOf c = if c = d then .decided s.freeId else s.windowOf c := by
  obtain ⟨o, ho⟩ := Option.isSome_iff_exists.mp hd
  have hget : Table.get? s.domains d = some o := ho
  have hdomains : (s.withRecord kind d).domains =
      Table.modify s.domains d fun o => { o with window := .decided s.freeId } := rfl
  simp only [State.windowOf, State.domain?, hdomains, Table.get?_modify]
  by_cases hc : c = d <;> simp [hc, hget]

theorem State.withRecord_fault?_self {s : State} (hlen : s.faults.length < 32) (kind : FaultKind) (d : Nat) :
    (s.withRecord kind d).fault? s.freeId = some (newFault kind d s.now) := by
  have hfree : Table.get? s.faults s.freeId = none := State.freeId_free hlen
  change Table.get? (s.faults ++ [(s.freeId, newFault kind d s.now)]) s.freeId = _
  rw [Table.get?_append_single, hfree]
  simp

theorem State.withRecord_fault?_ne (s : State) (kind : FaultKind) (d : Nat) {z : Nat} (hz : z ≠ s.freeId) :
    (s.withRecord kind d).fault? z = s.fault? z := by
  change Table.get? (s.faults ++ [(s.freeId, newFault kind d s.now)]) z = Table.get? s.faults z
  rw [Table.get?_append_single, if_neg (Ne.symm hz), Option.or_none]

/-! ## The domains below a FEEDER -/

theorem State.mem_childDomains {s : State} {c p : Nat} :
    c ∈ s.childDomains p ↔ ∃ o, (c, o) ∈ s.domains ∧ o.fields.parent = some p := by
  simp [State.childDomains, Table.mem_keysWhere]

theorem State.parentOf_eq_some {s : State} (hd : Table.distinct s.domains) {c p : Nat} :
    s.parentOf c = some p ↔ c ∈ s.childDomains p := by
  simp only [State.parentOf, State.domain?, Option.bind_eq_some_iff, Table.get?_eq_some_iff hd, State.mem_childDomains]

/-- The descendants of a FEEDER are its children and the children of these. -/
theorem State.mem_descendants {s : State} (hd : Table.distinct s.domains) {c d : Nat} :
    c ∈ s.descendants d ↔ c ∈ (s.childDomains d).flatMap fun p => p :: s.childDomains p := by
  have hdesc : c ∈ s.descendants d ↔ ∃ o, (c, o) ∈ s.domains ∧
      (o.fields.parent = some d ∨ ∃ p, o.fields.parent = some p ∧ p ∈ s.childDomains d) := by
    simp [State.descendants, Table.mem_keysWhere, Option.bind_eq_some_iff, State.parentOf_eq_some hd]
  rw [hdesc]
  simp only [List.mem_flatMap, List.mem_cons]
  constructor
  · rintro ⟨o, ho, hpar | ⟨p, hpar, hp⟩⟩
    · exact ⟨c, State.mem_childDomains.mpr ⟨o, ho, hpar⟩, .inl rfl⟩
    · exact ⟨p, hp, .inr (State.mem_childDomains.mpr ⟨o, ho, hpar⟩)⟩
  · rintro ⟨p, hp, rfl | hc⟩
    · obtain ⟨o, ho, hpar⟩ := State.mem_childDomains.mp hp
      exact ⟨o, ho, .inl hpar⟩
    · obtain ⟨o, ho, hpar⟩ := State.mem_childDomains.mp hc
      exact ⟨o, ho, .inr ⟨p, hpar, hp⟩⟩

/-- A child of a FEEDER is a SEGMENT, so no entry names it (R2, R16). -/
theorem State.Linked.no_member_of_child {s : State} (h : s.Linked) (hd : Table.distinct s.domains) {d c : Nat}
    (hlevel : (s.domain? d).map (fun o => o.fields.level) = some .feeder) (hc : c ∈ s.childDomains d) :
    ∀ e ∈ s.terms, e.2.prov.domain ≠ c := by
  rintro e he rfl
  obtain ⟨o, ho, hpar⟩ := State.mem_childDomains.mp hc
  have hup := (h.parents _ ho d hpar).1
  have hsplitter := (h.members e he).1
  have hget : s.domain? e.2.prov.domain = some o := Table.get?_of_mem hd ho
  rw [hget, Option.map_some, Option.some.injEq] at hsplitter
  rw [hlevel, hsplitter] at hup
  cases hup

/-- A FEEDER has no parent, so it is not below itself (R16). -/
theorem State.Linked.feeder_not_mem_descendants {s : State} (h : s.Linked) (hd : Table.distinct s.domains) {d : Nat}
    (hlevel : (s.domain? d).map (fun o => o.fields.level) = some .feeder) : d ∉ s.descendants d := by
  have hroot : ∀ p, d ∉ s.childDomains p := by
    intro p hp
    obtain ⟨o, ho, hpar⟩ := State.mem_childDomains.mp hp
    have hget : s.domain? d = some o := Table.get?_of_mem hd ho
    rw [hget, Option.map_some, Option.some.injEq] at hlevel
    exact (h.parents _ ho p hpar).2 hlevel
  rw [State.mem_descendants hd]
  simp only [List.mem_flatMap, List.mem_cons, not_exists, not_and, not_or]
  exact fun p hp => ⟨fun hdp => hroot d (hdp ▸ hp), hroot p⟩

/-! ## The loss of a feeder (R128) -/

/-- With an open FEEDER_LOSS on the domain, the loss returns it to OPEN (R138). -/
theorem State.feederLoss_of_open {s : State} {d x : Nat} (hon : s.faultOn .feederLoss d = some x) :
    s.feederLoss d = s.returnToOpen x := by
  simp [State.feederLoss, hon]

/-- A domain that already holds a fault opens no other (R131). -/
theorem State.feederLoss_of_holds {s : State} {d : Nat} (hon : s.faultOn .feederLoss d = none)
    (hholds : s.holdsFault d = true) : s.feederLoss d = s := by
  simp [State.feederLoss, hon, hholds]

/-- With 32 records open the loss is not recorded (R134). -/
theorem State.feederLoss_full {s : State} {d : Nat} (hon : s.faultOn .feederLoss d = none)
    (hnone : s.holdsFault d = false) (hlen : ¬ s.faults.length < 32) :
    s.feederLoss d = s.refuseFault .feederLoss d := by
  have hfull : s.faults.length ≥ 32 := by omega
  simp [State.feederLoss, hon, hnone, State.openFault, hfull]

/-- A new FEEDER_LOSS on the domain, with the windows below closed and their held members folded (R128 steps 1
and 2). -/
def State.lossFolded (s : State) (d : Nat) : State :=
  overKeys ((s.withRecord .feederLoss d).childDomains d) (fun c t => t.loseSegment s.freeId c)
    (s.withRecord .feederLoss d)

/-- With no fault of the domain open and room, the loss opens a record, folds and links below it, and announces it
(R128). -/
theorem State.feederLoss_opens {s : State} {d : Nat} (hon : s.faultOn .feederLoss d = none)
    (hnone : s.holdsFault d = false) (hlen : s.faults.length < 32) : s.feederLoss d =
      (overKeys ((s.lossFolded d).looseBelow d) (fun x t => t.linkFault x s.freeId) (s.lossFolded d)).offerOpened
        s.freeId false := by
  have hroom := State.openFault_room hlen (kind := .feederLoss) rfl d
  simp only [State.feederLoss, hon, hnone, Bool.false_eq_true, if_false, hroom]
  rfl

/-- A record of a domain below that has no parent fault is loose (R128 step 3). -/
theorem State.mem_looseBelow {s : State} {d c y : Nat} {r : FaultRecord} (hc : c ∈ s.descendants d)
    (hw : s.windowOf c = .decided y) (hr : s.fault? y = some r) (hp : r.parent = none) : y ∈ s.looseBelow d := by
  simp only [State.looseBelow, List.mem_filter, List.mem_filterMap]
  exact ⟨⟨c, hc, by rw [hw]; rfl⟩, by simp [hr, hp]⟩

section Opens

variable {s : State} {d : Nat} (hk : s.Keyed) (hl : s.Linked) (hon : s.faultOn .feederLoss d = none)
  (hnone : s.holdsFault d = false) (hlen : s.faults.length < 32)
  (hlevel : (s.domain? d).map (fun o => o.fields.level) = some .feeder)

include hk hl hlevel

/-- The descendants of a lost FEEDER, and only these, lose their windows and their held members (R128 step 2). -/
theorem State.lossFolded_lost :
    (s.withRecord .feederLoss d).Lost (s.lossFolded d) s.freeId (s.descendants d) := by
  have hrecord := s.withRecord_kept .feederLoss d
  refine State.Lost.congr (ids := (s.childDomains d).flatMap fun c => c :: s.childDomains c) ?_
    fun c => (State.mem_descendants (Table.distinct_of_rising hk.domains)).symm
  rw [State.lossFolded, State.childDomains_of_kept hrecord]
  refine overKeys_lost _ fun c hc u hu => ?_
  have hkept : u.kept = s.kept := hu.trans hrecord
  have hno : ∀ e ∈ u.terms, e.2.prov.domain ≠ c := by
    intro e he
    have hmem : e.2.prov ∈ u.terms.map fun e => e.2.prov := List.mem_map_of_mem he
    rw [State.provisioned_of_kept hkept] at hmem
    obtain ⟨e', he', hprov⟩ := List.mem_map.mp hmem
    exact hprov ▸ hl.no_member_of_child (Table.distinct_of_rising hk.domains) hlevel hc e' he'
  have hdistinct : Table.distinct u.terms := by
    unfold Table.distinct
    rw [State.termKeys_of_kept hkept]
    exact Table.distinct_of_rising hk.terms
  exact State.childDomains_of_kept hkept c ▸ State.loseSegment_lost hdistinct s.freeId hno

theorem State.lossFolded_windowOf (c : Nat) : (s.lossFolded d).windowOf c =
    if c = d then .decided s.freeId
    else if c ∈ s.descendants d ∧ (s.windowOf c).isOpen = true then .quiet else s.windowOf c := by
  have hdomains := Table.distinct_of_rising hk.domains
  have hd : (s.domain? d).isSome = true := by simpa using congrArg Option.isSome hlevel
  rw [(State.lossFolded_lost hk hl hlevel).window, State.withRecord_windowOf hd]
  by_cases hc : c = d
  · simp [hc, hl.feeder_not_mem_descendants hdomains hlevel]
  · simp [hc]

theorem State.lossFolded_term? (a : Nat) : (s.lossFolded d).term? a = (s.term? a).map fun e =>
    if e.held = true ∧ e.prov.domain ∈ s.descendants d ∧ (s.windowOf e.prov.domain).isOpen = true
    then e.foldedInto s.freeId else e := by
  have hdomains := Table.distinct_of_rising hk.domains
  have hd : (s.domain? d).isSome = true := by simpa using congrArg Option.isSome hlevel
  rw [(State.lossFolded_lost hk hl hlevel).term, s.withRecord_term?]
  congr 1
  funext e
  rw [State.withRecord_windowOf hd]
  by_cases hc : e.prov.domain = d
  · simp [hc, hl.feeder_not_mem_descendants hdomains hlevel]
  · simp [hc]

theorem State.lossFolded_fault?_ne {z : Nat} (hz : z ≠ s.freeId) : (s.lossFolded d).fault? z = s.fault? z :=
  ((State.lossFolded_lost hk hl hlevel).others z hz).trans (s.withRecord_fault?_ne _ _ hz)

include hon hnone hlen

theorem State.feederLoss_windowOf (c : Nat) : (s.feederLoss d).windowOf c =
    if c = d then .decided s.freeId
    else if c ∈ s.descendants d ∧ (s.windowOf c).isOpen = true then .quiet else s.windowOf c := by
  obtain ⟨-, hdomains, -⟩ := linkFaults_frame ((s.lossFolded d).looseBelow d) (s.lossFolded d) s.freeId
  rw [State.feederLoss_opens hon hnone hlen, State.windowOf_of_domains (State.offerOpened_domains ..),
    State.windowOf_of_domains hdomains, State.lossFolded_windowOf hk hl hlevel]

theorem State.feederLoss_term? (a : Nat) : (s.feederLoss d).term? a = (s.term? a).map fun e =>
    if e.held = true ∧ e.prov.domain ∈ s.descendants d ∧ (s.windowOf e.prov.domain).isOpen = true
    then e.foldedInto s.freeId else e := by
  obtain ⟨hterms, -, -⟩ := linkFaults_frame ((s.lossFolded d).looseBelow d) (s.lossFolded d) s.freeId
  rw [← State.lossFolded_term? hk hl hlevel, State.feederLoss_opens hon hnone hlen, State.term?,
    State.offerOpened_terms, hterms]
  rfl

/-- The record of the loss is announced (R128 step 4, R133). -/
theorem State.feederLoss_record : ∃ g, (s.feederLoss d).fault? s.freeId = some g ∧ g.kind = .feederLoss ∧
    g.subject = d ∧ g.announced = true := by
  have hnamed := (linkFaults_named ((s.lossFolded d).looseBelow d) (s.lossFolded d) s.freeId s.freeId).trans
    ((State.lossFolded_lost hk hl hlevel).named s.freeId)
  rw [State.named, State.named, State.withRecord_fault?_self hlen] at hnamed
  obtain ⟨f, hf, hname⟩ := Option.map_eq_some_iff.mp hnamed
  obtain ⟨hkind, hsubject⟩ := Prod.mk.inj hname
  obtain ⟨g, hg, hgkind, hgsubject, hann⟩ := State.offerOpened_announced false hf
  rw [State.feederLoss_opens hon hnone hlen]
  exact ⟨g, hg, hgkind.trans hkind, hgsubject.trans hsubject, hann⟩

/-- The loose records of the domains below are linked below the loss (R128 step 3). -/
theorem State.feederLoss_loose {c y : Nat} {r : FaultRecord} (hc : c ∈ s.descendants d) (hw : s.windowOf c = .decided y)
    (hr : s.fault? y = some r) (hp : r.parent = none) :
    (s.feederLoss d).fault? y = some (r.linkedUnder s.freeId) := by
  have hy : y ≠ s.freeId := by
    rintro rfl
    rw [State.freeId_free hlen] at hr
    cases hr
  have hcd : c ≠ d := by
    rintro rfl
    exact hl.feeder_not_mem_descendants (Table.distinct_of_rising hk.domains) hlevel hc
  have hkept : (s.lossFolded d).kept = s.kept :=
    (State.lossFolded_lost hk hl hlevel).kept.trans (s.withRecord_kept .feederLoss d)
  have hr' : (s.lossFolded d).fault? y = some r := (State.lossFolded_fault?_ne hk hl hlevel hy).trans hr
  have hw' : (s.lossFolded d).windowOf c = .decided y := by
    rw [State.lossFolded_windowOf hk hl hlevel, if_neg hcd, hw]
    simp [Window.isOpen]
  have hloose : y ∈ (s.lossFolded d).looseBelow d :=
    State.mem_looseBelow (State.descendants_of_kept hkept d ▸ hc) hw' hr' hp
  rw [State.feederLoss_opens hon hnone hlen, State.offerOpened_fault?_ne _ _ hy, linkFaults_fault?_ne _ _ hy,
    if_pos hloose, hr', Option.map_some]

end Opens

end Sys2Proof.Machine

/-! Feeder samples (R66, R67, R76, R77): what a sample makes of its channel, what the fault table and the correlator
leave alone of the plant, that they read neither the channels nor the notice queues, and O57. -/

namespace Sys2Proof.Machine

/-! ## What the fault table never touches: channels, tap slots and floor units -/

/-- The feeder channels, the tap slots and the floor units, which `kept` blanks. -/
def State.plant (s : State) : Table Feeder × Table Point × Table FloorUnit := (s.feeders, s.taps, s.units)

theorem overKeys_plant {f : Nat → State → State} (h : ∀ k s, (f k s).plant = s.plant) (keys : List Nat) (s : State) :
    (overKeys keys f s).plant = s.plant :=
  overKeys_keeps (p := fun t => t.plant = s.plant) (fun k t ht => (h k t).trans ht) keys s rfl

theorem State.offerOpened_plant (s : State) (id : Nat) (w : Bool) : (s.offerOpened id w).plant = s.plant := by
  unfold State.offerOpened
  split <;> rfl

theorem State.offerClosed_plant (s : State) (id : Nat) (r : CloseReason) (a b : Nat) :
    (s.offerClosed id r a b).plant = s.plant := by
  unfold State.offerClosed
  split <;> rfl

theorem State.offerHeld_plant (s : State) (id : Nat) : (s.offerHeld id).plant = s.plant := by
  unfold State.offerHeld
  split
  · exact s.offerOpened_plant id true
  · rfl

theorem State.removeFault_plant (s : State) (id : Nat) : (s.removeFault id).plant = s.plant := by
  unfold State.removeFault
  split
  · rfl
  · dsimp only
    split <;> rfl

theorem progressFault_plant (fuel id : Nat) (s : State) : (progressFault fuel id s).plant = s.plant := by
  induction fuel generalizing id s with
  | zero => rfl
  | succ fuel ih =>
    unfold progressFault
    split
    · rfl
    · split
      · rfl
      · dsimp only
        split
        · split
          · exact (State.removeFault_plant ..).trans ((ih ..).trans (State.offerHeld_plant ..))
          · exact (State.removeFault_plant ..).trans ((State.offerClosed_plant ..).trans (State.offerHeld_plant ..))
        · rfl

theorem State.causeGone_plant (s : State) (id : Nat) : (s.causeGone id).plant = s.plant := by
  unfold State.causeGone
  split
  · rfl
  · split
    · exact progressFault_plant ..
    · rfl

theorem State.openFault_plant (s : State) (kind : FaultKind) (id : Nat) : (s.openFault kind id).1.plant = s.plant := by
  unfold State.openFault State.refuseFault
  split
  · dsimp only
    split <;> rfl
  · dsimp only
    split <;> rfl

theorem State.loseSplitter_plant (s : State) (y id : Nat) : (s.loseSplitter y id).plant = s.plant := by
  unfold State.loseSplitter
  split
  · exact overKeys_plant (f := fun a s => s.foldTerm y a) (fun _ _ => rfl) _ _
  · rfl

theorem State.loseSegment_plant (s : State) (y id : Nat) : (s.loseSegment y id).plant = s.plant :=
  overKeys_plant (fun c t => t.loseSplitter_plant y c) _ _

theorem State.feederLoss_plant (s : State) (d : Nat) : (s.feederLoss d).plant = s.plant := by
  unfold State.feederLoss
  split
  · rfl
  · split
    · rfl
    · dsimp only
      split
      · exact s.openFault_plant .feederLoss d
      · rw [State.offerOpened_plant, overKeys_plant (f := fun x t => t.linkFault x _) (fun _ _ => rfl),
          overKeys_plant fun c t => t.loseSegment_plant _ c, State.openFault_plant]

/-! ## What the fault table never reads: channels and notice queues -/

/-- The state with other feeder channels and notice queues. -/
def State.withPower (s : State) (F : Table Feeder) (N : NoticeQueues) : State := { s with feeders := F, notices := N }

theorem overKeys_withPower {F : Table Feeder} {N : NoticeQueues} {f : Nat → State → State}
    (h : ∀ k s, f k (s.withPower F N) = (f k s).withPower F N) (keys : List Nat) (s : State) :
    overKeys keys f (s.withPower F N) = (overKeys keys f s).withPower F N :=
  overKeys_comm (g := fun t : State => t.withPower F N) h keys s

theorem State.loseSplitter_withPower (s : State) (F : Table Feeder) (N : NoticeQueues) (y id : Nat) :
    (s.withPower F N).loseSplitter y id = (s.loseSplitter y id).withPower F N := by
  have hwindow : (s.withPower F N).windowOf id = s.windowOf id := rfl
  unfold State.loseSplitter
  rw [hwindow]
  split
  · exact overKeys_withPower (f := fun a t => t.foldTerm y a) (fun _ _ => rfl) (s.heldMembers id) (s.dropWindow id)
  · rfl

theorem State.loseSegment_withPower (s : State) (F : Table Feeder) (N : NoticeQueues) (y id : Nat) :
    (s.withPower F N).loseSegment y id = (s.loseSegment y id).withPower F N := by
  unfold State.loseSegment
  exact overKeys_withPower (f := fun c t => t.loseSplitter y c) (fun c t => t.loseSplitter_withPower F N y c)
    (s.childDomains id) (s.dropWindow id)

theorem State.lossFolded_withPower (s : State) (F : Table Feeder) (N : NoticeQueues) (d : Nat) :
    (s.withPower F N).lossFolded d = (s.lossFolded d).withPower F N := by
  unfold State.lossFolded
  exact overKeys_withPower (f := fun c t => t.loseSegment s.freeId c)
    (fun c t => t.loseSegment_withPower F N s.freeId c) _ (s.withRecord .feederLoss d)

theorem State.lossFolded_notices (s : State) (d : Nat) : (s.lossFolded d).notices = s.notices := by
  have hsame : s.lossFolded d = (s.lossFolded d).withPower s.feeders s.notices :=
    s.lossFolded_withPower s.feeders s.notices d
  rw [hsame]
  rfl

/-- `t` is `s` but for feeder channels `F` and for its notice queues, which are those of `s` where `same` holds. -/
def State.Follows (s t : State) (F : Table Feeder) (same : Prop) : Prop :=
  ∃ M, t = s.withPower F M ∧ (same → M = s.notices)

theorem State.offerOpened_withPower (s : State) (F : Table Feeder) (N : NoticeQueues) (y : Nat) (w : Bool) :
    (s.offerOpened y w).Follows ((s.withPower F N).offerOpened y w) F (N = s.notices) := by
  have hfault : (s.withPower F N).fault? y = s.fault? y := rfl
  unfold State.offerOpened
  rw [hfault]
  split
  · exact ⟨N, rfl, id⟩
  · exact ⟨_, rfl, fun h => by rw [h]; rfl⟩

theorem State.refuseFault_withPower (s : State) (F : Table Feeder) (N : NoticeQueues) (kind : FaultKind) (d : Nat) :
    (s.refuseFault kind d).Follows ((s.withPower F N).refuseFault kind d) F (N = s.notices) := by
  have hctl : (s.withPower F N).faultCtl = s.faultCtl := rfl
  unfold State.refuseFault
  dsimp only
  rw [hctl]
  split
  · exact ⟨N, rfl, id⟩
  · exact ⟨_, rfl, fun h => by rw [h]; rfl⟩

/-- A feeder loss goes its way whatever the channels and the notice queues hold. -/
theorem State.feederLoss_withPower (s : State) (F : Table Feeder) (N : NoticeQueues) (d : Nat) :
    (s.feederLoss d).Follows ((s.withPower F N).feederLoss d) F (N = s.notices) := by
  cases hon : s.faultOn .feederLoss d with
  | some x =>
    rw [State.feederLoss_of_open hon, State.feederLoss_of_open (s := s.withPower F N) hon]
    exact ⟨N, rfl, id⟩
  | none =>
    cases hholds : s.holdsFault d with
    | true =>
      rw [State.feederLoss_of_holds hon hholds, State.feederLoss_of_holds (s := s.withPower F N) hon hholds]
      exact ⟨N, rfl, id⟩
    | false =>
      by_cases hlen : s.faults.length < 32
      · rw [State.feederLoss_opens hon hholds hlen, State.feederLoss_opens (s := s.withPower F N) hon hholds hlen,
          State.lossFolded_withPower]
        have hlinks := overKeys_withPower (F := F) (N := N)
          (f := fun x t => t.linkFault x s.freeId) (fun _ _ => rfl) ((s.lossFolded d).looseBelow d) (s.lossFolded d)
        obtain ⟨-, -, hnotices⟩ := linkFaults_frame ((s.lossFolded d).looseBelow d) (s.lossFolded d) s.freeId
        have hlast := State.offerOpened_withPower (overKeys ((s.lossFolded d).looseBelow d)
          (fun x t => t.linkFault x s.freeId) (s.lossFolded d)) F N s.freeId false
        rw [hnotices, State.lossFolded_notices, ← hlinks] at hlast
        exact hlast
      · rw [State.feederLoss_full hon hholds hlen, State.feederLoss_full (s := s.withPower F N) hon hholds hlen]
        exact s.refuseFault_withPower F N _ d

/-! ## The end of a cause (R45, R77, R137) -/

theorem State.causeGone_of_clearing {s : State} {x : Nat} {f : FaultRecord} (hf : s.fault? x = some f)
    (hst : f.state = .clearing) : s.causeGone x = s := by
  simp [State.causeGone, hf, hst]

/-- An OPEN record that still holds terminals or children enters CLEARING (R137). -/
theorem State.causeGone_of_opened {s : State} {x : Nat} {f : FaultRecord} (hf : s.fault? x = some f)
    (hst : f.state = .opened) (hkind : f.kind ≠ .unitLost) (hholds : 0 < f.off ∨ 0 < f.children) :
    s.causeGone x = s.modFault x fun g => s.progressed g := by
  have hrule : ¬ (f.off = 0 ∧ f.children = 0) := by omega
  simp only [State.causeGone, hf, hst, if_true, State.progress, progressFault, hkind, if_false, hrule]
  rfl

/-- A record in CLEARING, or one that still holds terminals or children, gives no notice when its cause goes. -/
theorem State.causeGone_notices {s : State} {x : Nat} {f : FaultRecord} (hf : s.fault? x = some f)
    (h : f.state = .clearing ∨ 0 < f.off ∨ 0 < f.children) : (s.causeGone x).notices = s.notices := by
  cases hst : f.state with
  | clearing => rw [State.causeGone_of_clearing hf hst]
  | opened =>
    have hholds : 0 < f.off ∨ 0 < f.children := by simpa [hst] using h
    by_cases hkind : f.kind = .unitLost
    · simp [State.causeGone, hf, hst, State.progress, progressFault, hkind]
    · rw [State.causeGone_of_opened hf hst hkind hholds, State.modFault_notices]

/-! ## What a channel's change of level tells (R76, R77) -/

theorem State.feederTold_same (s : State) (dom : Option Nat) {before after : LevelState}
    (h : before = .los ↔ after = .los) : s.feederTold dom before after = s := by
  have henters : ¬ (before ≠ .los ∧ after = .los) := fun ⟨hb, ha⟩ => hb (h.mpr ha)
  have hleaves : ¬ (before = .los ∧ after ≠ .los) := fun ⟨hb, ha⟩ => ha (h.mp hb)
  cases dom with
  | none => rfl
  | some d => simp only [State.feederTold, henters, hleaves, if_false]

theorem State.feederTold_enters (s : State) (d : Nat) {before after : LevelState} (hb : before ≠ .los)
    (ha : after = .los) : s.feederTold (some d) before after = s.feederLoss d := by
  simp [State.feederTold, hb, ha]

theorem State.feederTold_leaves_none {s : State} {d : Nat} {before after : LevelState} (hb : before = .los)
    (ha : after ≠ .los) (hon : s.faultOn .feederLoss d = none) : s.feederTold (some d) before after = s := by
  simp [State.feederTold, hb, ha, hon]

theorem State.feederTold_leaves_some {s : State} {d x : Nat} {before after : LevelState} (hb : before = .los)
    (ha : after ≠ .los) (hon : s.faultOn .feederLoss d = some x) :
    s.feederTold (some d) before after = s.causeGone x := by
  simp [State.feederTold, hb, ha, hon]

theorem State.feederTold_plant (s : State) (dom : Option Nat) (before after : LevelState) :
    (s.feederTold dom before after).plant = s.plant := by
  unfold State.feederTold
  split
  · rfl
  · split
    · exact s.feederLoss_plant _
    · split
      · split
        · rfl
        · exact s.causeGone_plant _
      · rfl

/-! ## One sample of one channel (R66) -/

/-- What a sample makes of its channel's record. -/
def State.feederAfter (s : State) (k : Nat) (code : BitVec 12) : Feeder := (s.feeder k).sample s.settings k code

/-- The state with the power notice of a sample offered (R74, R75). -/
def State.feederOffer (s : State) (k : Nat) (code : BitVec 12) : State :=
  s.offerLevel .major (.feeder k) (s.channelDomain k) (s.feeder k).point.level (s.feederAfter k code).point.level
    ((s.feederAfter k code).point.average.getD 0) ((s.feederAfter k code).point.last.getD 0)

theorem State.offerLevel_withPower (s : State) (F : Table Feeder) (c : NoticeClass) (j : PowerSubject)
    (dom : Option Nat) (before after : LevelState) (avg last : Int) :
    (s.withPower F s.notices).offerLevel c j dom before after avg last =
      (s.offerLevel c j dom before after avg last).withPower F
        (s.offerLevel c j dom before after avg last).notices := by
  unfold State.offerLevel
  split
  · rfl
  · split
    · rfl
    · split <;> rfl

theorem State.feederOffer_eq_withPower (s : State) (k : Nat) (code : BitVec 12) :
    s.feederOffer k code = s.withPower s.feeders (s.feederOffer k code).notices := by
  obtain ⟨g, hg⟩ := State.offerLevel_modNotices s .major (.feeder k) (s.channelDomain k) (s.feeder k).point.level
    (s.feederAfter k code).point.level ((s.feederAfter k code).point.average.getD 0)
    ((s.feederAfter k code).point.last.getD 0)
  rw [State.feederOffer, hg]
  rfl

/-- The record of the sampled channel written and the power notice offered, before the fault table is told. -/
def State.feederJudged (s : State) (k : Nat) (code : BitVec 12) : State :=
  s.withPower (Table.put s.feeders k (s.feederAfter k code)) (s.feederOffer k code).notices

theorem State.feederJudged_eq (s : State) (k : Nat) (code : BitVec 12) :
    s.feederJudged k code = (s.feederOffer k code).withPower (Table.put s.feeders k (s.feederAfter k code))
      (s.feederOffer k code).notices := by
  rw [State.feederJudged, s.feederOffer_eq_withPower k code]
  rfl

theorem State.feederSample_eq (s : State) (k : Nat) (code : BitVec 12) :
    s.feederSample k code = (s.feederJudged k code).feederTold (s.channelDomain k) (s.feeder k).point.level
      (s.feederAfter k code).point.level := by
  have hoffer := s.offerLevel_withPower (Table.put s.feeders k (s.feederAfter k code)) .major (.feeder k)
    (s.channelDomain k) (s.feeder k).point.level (s.feederAfter k code).point.level
    ((s.feederAfter k code).point.average.getD 0) ((s.feederAfter k code).point.last.getD 0)
  rw [s.feederJudged_eq]
  unfold State.feederSample
  dsimp only
  rw [State.offerPower_eq_offerLevel]
  exact congrArg (fun t : State => t.feederTold _ _ _) hoffer

theorem State.feederSample_plant (s : State) (k : Nat) (code : BitVec 12) :
    (s.feederSample k code).plant = (Table.put s.feeders k (s.feederAfter k code), s.taps, s.units) := by
  rw [s.feederSample_eq, State.feederTold_plant]
  rfl

theorem State.feederSample_feeders (s : State) (k : Nat) (code : BitVec 12) :
    (s.feederSample k code).feeders = Table.put s.feeders k (s.feederAfter k code) :=
  congrArg Prod.fst (s.feederSample_plant k code)

theorem State.feederSample_feeder_self (s : State) (k : Nat) (code : BitVec 12) :
    (s.feederSample k code).feeder k = s.feederAfter k code := by
  rw [State.feeder, s.feederSample_feeders, Table.get?_put_self, Option.getD_some]

theorem State.feederSample_feeder_ne (s : State) {k j : Nat} (code : BitVec 12) (h : j ≠ k) :
    (s.feederSample k code).feeder j = s.feeder j := by
  rw [State.feeder, s.feederSample_feeders, Table.get?_put_ne _ _ h]
  rfl

theorem State.feederSample_settings (s : State) (k : Nat) (code : BitVec 12) :
    (s.feederSample k code).settings = s.settings := State.settings_of_kept (s.feederSample_kept k code)

/-- A channel's record after a sample, with its value, average and low count as R66, R69 and R71 give them. -/
theorem Feeder.sample_eq (f : Feeder) (c : Settings) (k : Nat) (code : BitVec 12) {p avg : Int} {lows : Nat}
    (hp : convertCode code.toNat (c.calibration k) = p) (havg : smooth c.smoothing.toNat f.point.average p = avg)
    (hlows : lowCount c.feederJudge f.point.lows p = lows) :
    f.sample c k code = ⟨⟨nextLevel c.feederJudge (decide (2 ≤ f.samples)) f.point.level lows avg, some avg, some p,
      lows⟩, min (f.samples + 1) 3, some code, if code = 0#12 ∨ code = 0xFFF#12 then inc16 f.rails else f.rails⟩ := by
  simp only [Feeder.sample, Point.takeIn, hp, havg, hlows]

/-! ## The four channels (R66) -/

theorem State.feederSample_taps (s : State) (k : Nat) (code : BitVec 12) : (s.feederSample k code).taps = s.taps :=
  congrArg (fun x => x.2.1) (s.feederSample_plant k code)

theorem State.feederSample_units (s : State) (k : Nat) (code : BitVec 12) : (s.feederSample k code).units = s.units :=
  congrArg (fun x => x.2.2) (s.feederSample_plant k code)

theorem State.feederAfter_feederSample_ne (s : State) {k j : Nat} (code next : BitVec 12) (h : j ≠ k) :
    (s.feederSample k code).feederAfter j next = s.feederAfter j next := by
  rw [State.feederAfter, s.feederSample_feeder_ne code h, s.feederSample_settings]
  rfl

/-- Each channel takes its own sample in, and none of the others. -/
theorem State.feederSamples_feeder (s : State) (c : Fin 4 → BitVec 12) (k : Fin 4) :
    (s.feederSamples (c 0) (c 1) (c 2) (c 3)).feeder k.val = s.feederAfter k.val (c k) := by
  unfold State.feederSamples
  fin_cases k <;>
    simp [State.feederSample_feeder_self, State.feederSample_feeder_ne, State.feederAfter_feederSample_ne]

/-- The judgement of a channel by the rows of R72 and R73, as its samples stand before this one. -/
theorem nextLevel_feeder (j : Judge) (samples : Nat) (level : LevelState) (lows : Nat) (avg : Int) :
    nextLevel j (decide (2 ≤ samples)) level lows avg = match level with
      | .unknown => if samples < 2 then .unknown else firstLevel j avg
      | .normal => if lows = j.entry then .los else if avg < j.low then .low else .normal
      | .low => if lows = j.entry then .los else if j.low + j.hyst ≤ avg then .normal else .low
      | .los =>
        if lows < j.entry ∧ j.low + j.hyst ≤ avg ∧ j.los + j.hyst ≤ avg then .normal
        else if lows < j.entry ∧ j.los + j.hyst ≤ avg then .low else .los := by
  cases level with
  | unknown =>
    by_cases hfew : samples < 2
    · simp [nextLevel, hfew]
    · simp [nextLevel, hfew, Nat.not_lt.mp hfew]
  | normal => rfl
  | low => rfl
  | los => exact nextLevel_los ..

/-! ## What the fault table is told (R76, R77, R128, R138) -/

theorem State.feederSample_enters {s : State} {k d : Nat} {code : BitVec 12} (hdom : s.channelDomain k = some d)
    (hb : (s.feeder k).point.level ≠ .los) (ha : ((s.feederSample k code).feeder k).point.level = .los) :
    s.feederSample k code = (s.feederJudged k code).feederLoss d := by
  rw [s.feederSample_feeder_self] at ha
  rw [s.feederSample_eq, hdom, State.feederTold_enters _ _ hb ha]

theorem State.feederSample_leaves_some {s : State} {k d x : Nat} {code : BitVec 12} (hdom : s.channelDomain k = some d)
    (hb : (s.feeder k).point.level = .los) (ha : ((s.feederSample k code).feeder k).point.level ≠ .los)
    (hon : s.faultOn .feederLoss d = some x) : s.feederSample k code = (s.feederJudged k code).causeGone x := by
  rw [s.feederSample_feeder_self] at ha
  rw [s.feederSample_eq, hdom, State.feederTold_leaves_some (s := s.feederJudged k code) hb ha hon]

theorem State.feederSample_leaves_none {s : State} {k d : Nat} {code : BitVec 12} (hdom : s.channelDomain k = some d)
    (hb : (s.feeder k).point.level = .los) (ha : ((s.feederSample k code).feeder k).point.level ≠ .los)
    (hon : s.faultOn .feederLoss d = none) : s.feederSample k code = s.feederJudged k code := by
  rw [s.feederSample_feeder_self] at ha
  rw [s.feederSample_eq, hdom, State.feederTold_leaves_none (s := s.feederJudged k code) hb ha hon]

theorem State.feederSample_same {s : State} {k : Nat} {code : BitVec 12}
    (h : (s.feeder k).point.level = .los ↔ ((s.feederSample k code).feeder k).point.level = .los) :
    s.feederSample k code = s.feederJudged k code := by
  rw [s.feederSample_feeder_self] at h
  rw [s.feederSample_eq, State.feederTold_same _ _ h]

theorem State.feederSample_unbound {s : State} {k : Nat} (code : BitVec 12) (hdom : s.channelDomain k = none) :
    s.feederSample k code = s.feederJudged k code := by
  rw [s.feederSample_eq, hdom]
  rfl

/-- A sample that enters LOS leaves the tables as the loss alone would, and offers what the loss offers after the power
notice (assumption 34). -/
theorem State.feederJudged_feederLoss (s : State) (k d : Nat) (code : BitVec 12) :
    ((s.feederJudged k code).feederLoss d).terms = (s.feederLoss d).terms ∧
    ((s.feederJudged k code).feederLoss d).faults = (s.feederLoss d).faults ∧
    ((s.feederJudged k code).feederLoss d).domains = (s.feederLoss d).domains ∧
    ((s.feederJudged k code).feederLoss d).notices = ((s.feederOffer k code).feederLoss d).notices := by
  obtain ⟨M, hM, -⟩ := s.feederLoss_withPower (Table.put s.feeders k (s.feederAfter k code))
    (s.feederOffer k code).notices d
  obtain ⟨L, hL, hsame⟩ := (s.feederOffer k code).feederLoss_withPower (Table.put s.feeders k (s.feederAfter k code))
    (s.feederOffer k code).notices d
  have hjudged : s.feederJudged k code = (s.feederOffer k code).withPower
      (Table.put s.feeders k (s.feederAfter k code)) (s.feederOffer k code).notices := s.feederJudged_eq k code
  rw [← hjudged, hsame rfl] at hL
  have htables : (s.feederJudged k code).feederLoss d =
      (s.feederLoss d).withPower (Table.put s.feeders k (s.feederAfter k code)) M := hM
  exact ⟨by rw [htables]; rfl, by rw [htables]; rfl, by rw [htables]; rfl, by rw [hL]; rfl⟩

/-! ## The parts of O57 -/

/-- Every channel takes its sample in, and the row ends with the four samples settled (R66 to R73). -/
theorem exec_feederSample_channels (s : State) (c : Fin 4 → BitVec 12) (hh : s.halted = false) :
    ∃ t, exec (.feederSample (c 0) (c 1) (c 2) (c 3)) s = .next t ∧
      (∀ k : Fin 4, t.feeder k.val = s.feederAfter k.val (c k)) ∧
      t.still = (s.feederSamples (c 0) (c 1) (c 2) (c 3)).still ∧
      t.taps = s.taps ∧ t.units = s.units ∧ t.settings = s.settings ∧ t.latch = s.latch := by
  have hstill := (s.feederSamples (c 0) (c 1) (c 2) (c 3)).settle_still
  have hkept := s.feederSamples_kept (c 0) (c 1) (c 2) (c 3)
  have hrow : exec (.feederSample (c 0) (c 1) (c 2) (c 3)) s =
      .next (s.feederSamples (c 0) (c 1) (c 2) (c 3)).settle := by
    change Host.Outcome.next (s.unlessHalted fun s => s.feederSamples (c 0) (c 1) (c 2) (c 3)).settle = _
    simp [State.unlessHalted, hh]
  refine ⟨_, hrow, fun k => ?_, hstill, ?_, ?_, ?_, ?_⟩
  · rw [State.feeder, State.feeders_of_still hstill]
    exact s.feederSamples_feeder c k
  · rw [State.taps_of_still hstill]
    simp only [State.feederSamples, State.feederSample_taps]
  · rw [State.units_of_still hstill]
    simp only [State.feederSamples, State.feederSample_units]
  · exact (State.settings_of_still hstill).trans (State.settings_of_kept hkept)
  · exact (State.latch_of_still hstill).trans (State.latch_of_kept hkept)

/-- The record of a sampled channel, with the steps of its value, average and low count written out (R66, R69, R71 to
R73). -/
theorem State.feederAfter_eq (s : State) (k : Nat) (code : BitVec 12) {p avg : Int} {lows : Nat}
    (hp : p = max (-600) (min 200 (((code.toNat * 3 / 16 : Nat) : Int) - 600 + s.settings.calibration k)))
    (havg : avg = smooth s.settings.smoothing.toNat (s.feeder k).point.average p)
    (hlows : lows = if p < s.settings.feederLos then min ((s.feeder k).point.lows + 1) 3 else 0) :
    s.feederAfter k code = ⟨⟨nextLevel s.settings.feederJudge (decide (2 ≤ (s.feeder k).samples))
      (s.feeder k).point.level lows avg, some avg, some p, lows⟩, min ((s.feeder k).samples + 1) 3, some code,
      if code = 0#12 ∨ code = 0xFFF#12 then inc16 (s.feeder k).rails else (s.feeder k).rails⟩ :=
  Feeder.sample_eq _ _ k code hp.symm havg.symm hlows.symm

/-- What a bound channel's change of level does to the tables (R76, R77, R137, R138). -/
theorem State.feederSample_tables (s : State) (k d : Nat) (code : BitVec 12) (hdom : s.channelDomain k = some d) :
    ((s.feeder k).point.level ≠ .los → ((s.feederSample k code).feeder k).point.level = .los →
      (s.feederSample k code).terms = (s.feederLoss d).terms ∧
        (s.feederSample k code).faults = (s.feederLoss d).faults ∧
        (s.feederSample k code).domains = (s.feederLoss d).domains) ∧
    ((s.feeder k).point.level = .los → ((s.feederSample k code).feeder k).point.level ≠ .los →
      ∀ x f, s.faultOn .feederLoss d = some x → s.fault? x = some f →
      (f.state = .clearing → (s.feederSample k code).faults = s.faults) ∧
      (f.state = .opened → f.kind = .feederLoss → 0 < f.off ∨ 0 < f.children →
        (s.feederSample k code).fault? x = some (s.progressed f))) ∧
    (((s.feeder k).point.level = .los ↔ ((s.feederSample k code).feeder k).point.level = .los) →
      (s.feederSample k code).faults = s.faults ∧ (s.feederSample k code).terms = s.terms ∧
        (s.feederSample k code).domains = s.domains) := by
  refine ⟨fun hb ha => ?enters, fun hb ha x f hon hf => ⟨fun hst => ?clearing, fun hst hkind hholds => ?opened⟩,
    fun hsame => ?same⟩
  case enters =>
    obtain ⟨hterms, hfaults, hdomains, -⟩ := s.feederJudged_feederLoss k d code
    rw [State.feederSample_enters hdom hb ha]
    exact ⟨hterms, hfaults, hdomains⟩
  case clearing =>
    rw [State.feederSample_leaves_some hdom hb ha hon, State.causeGone_of_clearing (s := s.feederJudged k code) hf hst]
    rfl
  case opened =>
    have hget : Table.get? s.faults x = some f := hf
    rw [State.feederSample_leaves_some hdom hb ha hon,
      State.causeGone_of_opened (s := s.feederJudged k code) hf hst (by simp [hkind]) hholds]
    exact (Table.get?_modify_self s.faults x s.progressed).trans (by rw [hget]; rfl)
  case same =>
    rw [State.feederSample_same hsame]
    exact ⟨rfl, rfl, rfl⟩

/-- What a sample offers: the power notice of a bound channel, and after it what the loss offers (R74 to R76,
assumption 34). -/
theorem State.feederSample_notices (s : State) (k : Nat) (code : BitVec 12) :
    (s.channelDomain k = none → (s.feederSample k code).notices = s.notices ∧
      (s.feederSample k code).faults = s.faults ∧ (s.feederSample k code).terms = s.terms) ∧
    (((s.feeder k).point.level = .los ↔ ((s.feederSample k code).feeder k).point.level = .los) →
      (s.feederSample k code).notices = (s.feederOffer k code).notices) ∧
    (∀ d, s.channelDomain k = some d →
      ((s.feeder k).point.level ≠ .los → ((s.feederSample k code).feeder k).point.level = .los →
        (s.feederSample k code).notices = ((s.feederOffer k code).feederLoss d).notices) ∧
      ((s.feeder k).point.level = .los → ((s.feederSample k code).feeder k).point.level ≠ .los →
        (s.faultOn .feederLoss d = none ∨ ∃ x f, s.faultOn .feederLoss d = some x ∧ s.fault? x = some f ∧
          (f.state = .clearing ∨ 0 < f.off ∨ 0 < f.children)) →
        (s.feederSample k code).notices = (s.feederOffer k code).notices)) := by
  refine ⟨fun hdom => ?unbound, fun hsame => ?same, fun d hdom => ⟨fun hb ha => ?enters, fun hb ha hrec => ?leaves⟩⟩
  case unbound =>
    have hoffer : s.feederOffer k code = s := by rw [State.feederOffer, hdom]; rfl
    rw [State.feederSample_unbound code hdom, State.feederJudged, hoffer]
    exact ⟨rfl, rfl, rfl⟩
  case same =>
    rw [State.feederSample_same hsame]
    rfl
  case enters =>
    obtain ⟨-, -, -, hnotices⟩ := s.feederJudged_feederLoss k d code
    rw [State.feederSample_enters hdom hb ha, hnotices]
  case leaves =>
    obtain hon | ⟨x, f, hon, hf, hst⟩ := hrec
    · rw [State.feederSample_leaves_none hdom hb ha hon]
      rfl
    · rw [State.feederSample_leaves_some hdom hb ha hon, State.causeGone_notices (s := s.feederJudged k code) hf hst]
      rfl

/-- Settles O57: the row by its four channels, the tables and the notices of one sample, and the loss of a feeder, which
returns its open record to OPEN or opens one. -/
theorem feederSampleTakesIn : Obligations.FeederSampleTakesIn := by
  refine ⟨fun s c hh => ?channels, fun s t k d code ht hdom => ?tables,
    fun s t o k code avg last ht havg hlast ho => ?notices,
    fun s d hk hl _ => ⟨fun x f hon hf => ?returns, fun hon hnone hlen hlevel => ?opens⟩⟩
  case channels =>
    obtain ⟨t, hrow, hfeeder, hframe⟩ := exec_feederSample_channels s c hh
    refine ⟨t, hrow, fun k p avg lows hp havg hlows => ?_, hframe⟩
    have hsmooth : avg = smooth s.settings.smoothing.toNat (s.feeder k.val).point.average p := by
      rw [havg]
      cases (s.feeder k.val).point.average with
      | none => rfl
      | some a => exact (smooth_some _ a p).symm
    rw [hfeeder k, s.feederAfter_eq k.val (c k) hp hsmooth hlows, nextLevel_feeder]
    cases (s.feeder k.val).point.level <;> rfl
  case tables =>
    subst ht
    exact s.feederSample_tables k d code hdom
  case notices =>
    subst ht
    have hoffer : o = s.feederOffer k code := by
      rw [s.feederSample_feeder_self] at ho havg hlast
      rw [ho, State.feederOffer, havg, hlast]
      rfl
    rw [hoffer]
    exact s.feederSample_notices k code
  case returns =>
    have hget : Table.get? s.faults x = some f := hf
    rw [State.feederLoss_of_open hon]
    refine ⟨?_, rfl, rfl⟩
    simp [State.returnToOpen, State.fault?, hget, State.now]
  case opens =>
    have hdomains := Table.distinct_of_rising hk.domains
    have hbelow := hl.feeder_not_mem_descendants hdomains hlevel
    obtain ⟨g, hg, hkind, hsubject, hann⟩ := State.feederLoss_record hk hl hon hnone hlen hlevel
    have hwindow := State.feederLoss_windowOf hk hl hon hnone hlen hlevel
    refine ⟨s.freeId, g, State.freeId_free hlen, hg, hkind, hsubject, hann, ?_, fun c hc hopen => ?_,
      fun c y r hc hw hr hp => State.feederLoss_loose hk hl hon hnone hlen hlevel hc hw hr hp, fun a e he => ?_⟩
    · rw [hwindow, if_pos rfl]
    · have hne : c ≠ d := by
        rintro rfl
        exact hbelow hc
      rw [hwindow, if_neg hne, if_pos ⟨hc, hopen⟩]
    · rw [State.feederLoss_term? hk hl hon hnone hlen hlevel, he, Option.map_some]
      split
      · next hfold =>
        obtain ⟨hheld, -⟩ := hfold
        rw [Terminal.foldedInto_of_held hheld]
      · rfl

end Sys2Proof.Machine

/-! What the agreements of the tables speak of (R82, R131, R135, R136): counting over a table, the core of a fault
record, and the ties between entries, records and windows, which most of the model's operations leave alone. -/

namespace Sys2Proof.Machine

/-! ## Counting over a table -/

section Counting

variable {α β : Type}

theorem Table.countWhere_cons (e : Nat × α) (t : Table α) (p : Nat → α → Bool) :
    Table.countWhere (e :: t) p = Table.countWhere t p + (if p e.1 e.2 = true then 1 else 0) := by
  unfold Table.countWhere
  rw [List.filter_cons]
  split <;> simp

theorem Table.countWhere_congr {t : Table α} {p q : Nat → α → Bool} (h : ∀ k v, (k, v) ∈ t → p k v = q k v) :
    Table.countWhere t p = Table.countWhere t q := by
  unfold Table.countWhere
  rw [List.filter_congr fun e he => h e.1 e.2 he]

theorem Table.countWhere_map (t : Table α) (g : α → β) (p : Nat → β → Bool) :
    Table.countWhere (t.map fun e => (e.1, g e.2)) p = Table.countWhere t fun k v => p k (g v) := by
  simp [Table.countWhere, List.filter_map, Function.comp_def]

theorem Table.countWhere_eq_zero {t : Table α} {p : Nat → α → Bool} :
    Table.countWhere t p = 0 ↔ ∀ k v, (k, v) ∈ t → p k v = false := by
  simp [Table.countWhere, List.filter_eq_nil_iff]

theorem Table.countWhere_le_length (t : Table α) (p : Nat → α → Bool) : Table.countWhere t p ≤ t.length :=
  List.length_filter_le ..

theorem Table.modify_cons (e : Nat × α) (t : Table α) (k : Nat) (f : α → α) :
    Table.modify (e :: t) k f = (if e.1 = k then (e.1, f e.2) else e) :: Table.modify t k f := rfl

theorem Table.get?_eq_none_iff {t : Table α} {k : Nat} : Table.get? t k = none ↔ k ∉ t.map Prod.fst := by
  rw [← Table.has_iff_mem_keys, Table.has]
  cases Table.get? t k <;> simp

theorem Table.modify_of_get?_none {t : Table α} {k : Nat} (h : Table.get? t k = none) (f : α → α) :
    Table.modify t k f = t := by
  rw [Table.get?_eq_none_iff] at h
  unfold Table.modify
  conv_rhs => rw [← List.map_id t]
  refine List.map_congr_left fun e he => ?_
  have hne : e.1 ≠ k := fun hk => h (hk ▸ List.mem_map_of_mem he)
  simp [hne]

/-- Changing the one record under a key changes a count by that record alone. -/
theorem Table.countWhere_modify {t : Table α} (hd : Table.distinct t) {k : Nat} {v : α} (hk : Table.get? t k = some v)
    (f : α → α) (p : Nat → α → Bool) :
    Table.countWhere (Table.modify t k f) p + (if p k v = true then 1 else 0) =
      Table.countWhere t p + (if p k (f v) = true then 1 else 0) := by
  induction t with
  | nil => simp at hk
  | cons e t ih =>
    obtain ⟨hnew, hd⟩ := List.nodup_cons.mp hd
    rw [Table.get?_cons] at hk
    rw [Table.modify_cons, Table.countWhere_cons, Table.countWhere_cons]
    by_cases he : e.1 = k
    · have hrest : Table.get? t k = none := Table.get?_eq_none_iff.mpr (he ▸ hnew)
      rw [if_pos he, Option.some.injEq] at hk
      rw [if_pos he, Table.modify_of_get?_none hrest, he, hk]
      dsimp only
      omega
    · rw [if_neg he] at hk ⊢
      have := ih hd hk
      omega

theorem Table.erase_cons (e : Nat × α) (t : Table α) (k : Nat) :
    Table.erase (e :: t) k = if e.1 = k then Table.erase t k else e :: Table.erase t k := by
  by_cases h : e.1 = k <;> simp [Table.erase, h]

theorem Table.erase_of_get?_none {t : Table α} {k : Nat} (h : Table.get? t k = none) : Table.erase t k = t := by
  rw [Table.get?_eq_none_iff] at h
  unfold Table.erase
  rw [List.filter_eq_self]
  intro e he
  have hne : e.1 ≠ k := fun hk => h (hk ▸ List.mem_map_of_mem he)
  simp [hne]

/-- Taking the one record under a key out takes it out of a count. -/
theorem Table.countWhere_erase {t : Table α} (hd : Table.distinct t) {k : Nat} {v : α} (hk : Table.get? t k = some v)
    (p : Nat → α → Bool) :
    Table.countWhere (Table.erase t k) p + (if p k v = true then 1 else 0) = Table.countWhere t p := by
  induction t with
  | nil => simp at hk
  | cons e t ih =>
    obtain ⟨hnew, hd⟩ := List.nodup_cons.mp hd
    rw [Table.get?_cons] at hk
    rw [Table.erase_cons, Table.countWhere_cons]
    by_cases he : e.1 = k
    · have hrest : Table.get? t k = none := Table.get?_eq_none_iff.mpr (he ▸ hnew)
      rw [if_pos he, Option.some.injEq] at hk
      rw [if_pos he, Table.erase_of_get?_none hrest, he, hk]
    · rw [if_neg he] at hk ⊢
      rw [Table.countWhere_cons]
      have := ih hd hk
      omega

theorem Table.length_erase {t : Table α} (hd : Table.distinct t) {k : Nat} {v : α} (hk : Table.get? t k = some v) :
    (Table.erase t k).length + 1 = t.length := by
  have hcount := Table.countWhere_erase hd hk fun _ _ => true
  simpa [Table.countWhere] using hcount

theorem Table.countWhere_append_single (t : Table α) (k : Nat) (v : α) (p : Nat → α → Bool) :
    Table.countWhere (t ++ [(k, v)]) p = Table.countWhere t p + (if p k v = true then 1 else 0) := by
  unfold Table.countWhere
  rw [List.filter_append, List.length_append, List.filter_cons]
  split <;> simp

/-- A record put under a new key adds itself to a count. -/
theorem Table.countWhere_put {t : Table α} {k : Nat} (hk : Table.get? t k = none) (v : α) (p : Nat → α → Bool) :
    Table.countWhere (Table.put t k v) p = Table.countWhere t p + (if p k v = true then 1 else 0) := by
  induction t with
  | nil => simp [Table.put, Table.countWhere_cons]
  | cons e t ih =>
    obtain ⟨a, b⟩ := e
    rw [Table.get?_cons] at hk
    have hne : a ≠ k := fun h => by simp [h] at hk
    rw [if_neg hne] at hk
    have hka : ¬ k = a := fun h => hne h.symm
    simp only [Table.put, hka, if_false]
    split
    · simp [Table.countWhere_cons]
    · rw [Table.countWhere_cons, Table.countWhere_cons, ih hk]
      omega

theorem Table.distinct_erase {t : Table α} (h : Table.distinct t) (k : Nat) : Table.distinct (Table.erase t k) :=
  List.Nodup.sublist (List.filter_sublist.map _) h

theorem Table.distinct_modify {t : Table α} (h : Table.distinct t) (k : Nat) (f : α → α) :
    Table.distinct (Table.modify t k f) := by
  unfold Table.distinct
  rwa [Table.keys_modify]

/-- A change of records that a map sees as another change. -/
theorem Table.map_modify_map (t : Table α) (k : Nat) {f : α → α} {g : α → β} {f' : β → β} (h : ∀ a, g (f a) = f' (g a)) :
    (Table.modify t k f).map (fun e => (e.1, g e.2)) = Table.modify (t.map fun e => (e.1, g e.2)) k f' := by
  simp only [Table.modify, List.map_map]
  refine List.map_congr_left fun e _ => ?_
  simp only [Function.comp]
  split <;> simp [h]

theorem Table.map_erase (t : Table α) (k : Nat) (g : α → β) :
    (Table.erase t k).map (fun e => (e.1, g e.2)) = Table.erase (t.map fun e => (e.1, g e.2)) k := by
  simp [Table.erase, List.filter_map, Function.comp_def]

theorem Table.distinct_map {t : Table α} (h : Table.distinct t) (g : α → β) :
    Table.distinct (t.map fun e => (e.1, g e.2)) := by
  unfold Table.distinct
  simpa [List.map_map, Function.comp_def] using h

end Counting

/-! ## The core of a fault record -/

/-- What of a fault record other tables and records hang on (R131, R135, R136). -/
structure FaultCore where
  kind     : FaultKind
  subject  : Nat
  off      : Nat
  children : Nat
  parent   : Option Nat

/-- The core of a record. -/
def FaultRecord.core (f : FaultRecord) : FaultCore := ⟨f.kind, f.subject, f.off, f.children, f.parent⟩

@[simp] theorem FaultRecord.core_kind (f : FaultRecord) : f.core.kind = f.kind := rfl
@[simp] theorem FaultRecord.core_subject (f : FaultRecord) : f.core.subject = f.subject := rfl
@[simp] theorem FaultRecord.core_off (f : FaultRecord) : f.core.off = f.off := rfl
@[simp] theorem FaultRecord.core_children (f : FaultRecord) : f.core.children = f.children := rfl
@[simp] theorem FaultRecord.core_parent (f : FaultRecord) : f.core.parent = f.parent := rfl

/-- The cores of the open records. -/
def State.cores (s : State) : Table FaultCore := s.faults.map fun e => (e.1, e.2.core)

/-- The core of an open record. -/
def State.core? (s : State) (x : Nat) : Option FaultCore := Table.get? s.cores x

theorem State.core?_eq (s : State) (x : Nat) : s.core? x = (s.fault? x).map FaultRecord.core := Table.get?_map ..

theorem State.core?_of_fault? {s : State} {x : Nat} {f : FaultRecord} (h : s.fault? x = some f) :
    s.core? x = some f.core := by rw [State.core?_eq, h, Option.map_some]

theorem State.core?_eq_none {s : State} {x : Nat} : s.core? x = none ↔ s.fault? x = none := by
  rw [State.core?_eq, Option.map_eq_none_iff]

theorem State.modFault_cores (s : State) (x : Nat) {f : FaultRecord → FaultRecord} {g : FaultCore → FaultCore}
    (h : ∀ r, (f r).core = g r.core) : (s.modFault x f).cores = Table.modify s.cores x g :=
  Table.map_modify_map s.faults x h

theorem State.modFault_cores_same (s : State) (x : Nat) {f : FaultRecord → FaultRecord} (h : ∀ r, (f r).core = r.core) :
    (s.modFault x f).cores = s.cores := by
  rw [s.modFault_cores x (g := id) h]
  simp [Table.modify]

/-! ## The ties between entries, windows and records -/

/-- All that the agreements between entries, domains and records speak of. -/
def State.ties (s : State) : Table Terminal × Table Domain × Table FaultCore := (s.terms, s.domains, s.cores)

theorem State.ties_of_tables {s t : State} (ht : t.terms = s.terms) (hd : t.domains = s.domains)
    (hf : t.faults = s.faults) : t.ties = s.ties := by
  simp [State.ties, State.cores, ht, hd, hf]

theorem State.ties_of_still {s t : State} (h : t.still = s.still) : t.ties = s.ties :=
  State.ties_of_tables (State.terms_of_still h) (State.domains_of_still h) (State.faults_of_still h)

theorem State.modFault_ties (s : State) (x : Nat) {f : FaultRecord → FaultRecord} (h : ∀ r, (f r).core = r.core) :
    (s.modFault x f).ties = s.ties := by
  rw [State.ties, s.modFault_cores_same x h]
  rfl

@[simp] theorem State.offer_ties (s : State) (c : NoticeClass) (b : NoticeBody) : (s.offer c b).ties = s.ties := rfl
@[simp] theorem State.modSched_ties (s : State) (f : Sched → Sched) : (s.modSched f).ties = s.ties := rfl
@[simp] theorem State.modRiser_ties (s : State) (f : Riser → Riser) : (s.modRiser f).ties = s.ties := rfl
@[simp] theorem State.modLink_ties (s : State) (f : HostLink → HostLink) : (s.modLink f).ties = s.ties := rfl
@[simp] theorem State.modUnit_ties (s : State) (k : Nat) (f : FloorUnit → FloorUnit) :
    (s.modUnit k f).ties = s.ties := rfl
@[simp] theorem State.modTally_ties (s : State) (f : Tally → Tally) : (s.modTally f).ties = s.ties := rfl
@[simp] theorem State.modLearned_ties (s : State) (f : Table Learned → Table Learned) :
    (s.modLearned f).ties = s.ties := rfl
@[simp] theorem State.modFaultCtl_ties (s : State) (f : FaultControl → FaultControl) :
    (s.modFaultCtl f).ties = s.ties := rfl
@[simp] theorem State.modNotices_ties (s : State) (f : NoticeQueues → NoticeQueues) :
    (s.modNotices f).ties = s.ties := rfl
@[simp] theorem State.modFmus_ties (s : State) (f : Table Fmu → Table Fmu) : (s.modFmus f).ties = s.ties := rfl
@[simp] theorem State.modStore_ties (s : State) (f : Store → Store) : (s.modStore f).ties = s.ties := rfl
@[simp] theorem State.pacingReturn_ties (s : State) : s.pacingReturn.ties = s.ties := rfl
@[simp] theorem State.settle_ties (s : State) : s.settle.ties = s.ties := State.ties_of_still s.settle_still

@[simp] theorem State.startReminder_ties (s : State) (x : Nat) : (s.startReminder x).ties = s.ties :=
  s.modFault_ties x fun r => by split <;> rfl

@[simp] theorem State.offerOpened_ties (s : State) (x : Nat) (w : Bool) : (s.offerOpened x w).ties = s.ties := by
  unfold State.offerOpened
  split
  · rfl
  · rw [State.offer_ties, State.startReminder_ties]
    exact s.modFault_ties x fun _ => rfl

@[simp] theorem State.offerClosed_ties (s : State) (x : Nat) (r : CloseReason) (a b : Nat) :
    (s.offerClosed x r a b).ties = s.ties := by
  unfold State.offerClosed
  split <;> rfl

@[simp] theorem State.offerHeld_ties (s : State) (x : Nat) : (s.offerHeld x).ties = s.ties := by
  unfold State.offerHeld
  split
  · exact s.offerOpened_ties x true
  · rfl

@[simp] theorem State.returnToOpen_ties (s : State) (x : Nat) : (s.returnToOpen x).ties = s.ties :=
  s.modFault_ties x fun _ => rfl

@[simp] theorem State.refuseFault_ties (s : State) (k : FaultKind) (i : Nat) : (s.refuseFault k i).ties = s.ties := by
  unfold State.refuseFault
  dsimp only
  split <;> rfl

@[simp] theorem State.offerWatch_ties (s : State) (a : Nat) (k : WatchKind) (u : Uptime) :
    (s.offerWatch a k u).ties = s.ties := by
  unfold State.offerWatch
  split
  · rfl
  · split <;> rfl

@[simp] theorem State.offerRestored_ties (s : State) (a : Nat) (t : Terminal) (p : RestorePath) :
    (s.offerRestored a t p).ties = s.ties := by
  unfold State.offerRestored
  split <;> rfl

/-! ## What the ties are read by -/

/-- The level of a domain. -/
def State.levelAt (s : State) (i : Nat) : Option Level := (s.domain? i).map fun o => o.fields.level

/-- How high a domain stands: 0 where there is none. -/
def State.rankAt (s : State) (i : Nat) : Nat := ((s.levelAt i).map fun l => l.code + 1).getD 0

/-- How high the subject of an open record stands. -/
def State.faultRank (s : State) (x : Nat) : Nat := ((s.core? x).map fun f => s.rankAt f.subject).getD 0

/-- How many entries are linked to a record. -/
def State.linkCount (s : State) (x : Nat) : Nat := Table.countWhere s.terms fun _ t => decide (t.link = some x)

/-- How many records, those in `leaving` left out, are linked to a record. -/
def State.childCount (s : State) (leaving : List Nat) (x : Nat) : Nat :=
  Table.countWhere s.cores fun y g => decide (g.parent = some x) && decide (y ∉ leaving)

section SameTies

variable {s t : State} (h : t.ties = s.ties)
include h

theorem State.terms_of_ties : t.terms = s.terms := congrArg Prod.fst h
theorem State.domains_of_ties : t.domains = s.domains := congrArg (fun x => x.2.1) h
theorem State.cores_of_ties : t.cores = s.cores := congrArg (fun x => x.2.2) h
theorem State.core?_of_ties (x : Nat) : t.core? x = s.core? x := by rw [State.core?, State.cores_of_ties h]; rfl
theorem State.term?_of_ties (a : Nat) : t.term? a = s.term? a := by rw [State.term?, State.terms_of_ties h]; rfl
theorem State.domain?_of_ties (i : Nat) : t.domain? i = s.domain? i := by
  rw [State.domain?, State.domains_of_ties h]; rfl
theorem State.windowOf_of_ties (i : Nat) : t.windowOf i = s.windowOf i :=
  State.windowOf_of_domains (State.domains_of_ties h) i
theorem State.levelAt_of_ties (i : Nat) : t.levelAt i = s.levelAt i := by
  rw [State.levelAt, State.domain?_of_ties h]; rfl
theorem State.rankAt_of_ties (i : Nat) : t.rankAt i = s.rankAt i := by rw [State.rankAt, State.levelAt_of_ties h]; rfl
theorem State.faultRank_of_ties (x : Nat) : t.faultRank x = s.faultRank x := by
  simp only [State.faultRank, State.core?_of_ties h, State.rankAt_of_ties h]
theorem State.linkCount_of_ties (x : Nat) : t.linkCount x = s.linkCount x := by
  rw [State.linkCount, State.terms_of_ties h]; rfl
theorem State.childCount_of_ties (l : List Nat) (x : Nat) : t.childCount l x = s.childCount l x := by
  rw [State.childCount, State.cores_of_ties h]; rfl

end SameTies

end Sys2Proof.Machine

/-! The agreements of O8 and O9 as one invariant that a run is followed by, and what each kind of change asks to keep
it. `Slack` names what a change in several steps leaves open until its last step. -/

namespace Sys2Proof.Machine

/-! ## The invariant -/

/-- How much of the agreement is followed: the terminal records alone (O8), the fault table with them (the first part
of O9), or the links and windows too (its second part). -/
inductive Depth where
  | records | faults | links

/-- The fault table is followed. -/
def Depth.Faults : Depth → Prop
  | .records => False
  | .faults => True
  | .links => True

/-- The links are followed. -/
def Depth.Links : Depth → Prop
  | .records => False
  | .faults => False
  | .links => True

theorem Depth.Links.faults {d : Depth} (h : d.Links) : d.Faults := by
  cases d with
  | records => exact h
  | faults => trivial
  | links => trivial

/-- What stands open within a change: `loose` SPLITTERs whose held members have lost their window, `stale` records
whose counts no longer say what they count, and `leaving` records, which are on their way out and no longer counted as
children. -/
structure Slack where
  loose   : List Nat
  stale   : List Nat
  leaving : List Nat

/-- Nothing stands open. -/
def Slack.tight : Slack := ⟨[], [], []⟩

/-- Record `x` is on its way out. -/
def Slack.leave (k : Slack) (x : Nat) : Slack := ⟨k.loose, x :: k.stale, x :: k.leaving⟩

/-- The counts of record `x` stand open. -/
def Slack.stain (k : Slack) (x : Nat) : Slack := ⟨k.loose, x :: k.stale, k.leaving⟩

@[simp] theorem Slack.tight_loose : Slack.tight.loose = [] := rfl
@[simp] theorem Slack.tight_stale : Slack.tight.stale = [] := rfl
@[simp] theorem Slack.tight_leaving : Slack.tight.leaving = [] := rfl
@[simp] theorem Slack.leave_loose (k : Slack) (x : Nat) : (k.leave x).loose = k.loose := rfl
@[simp] theorem Slack.leave_stale (k : Slack) (x : Nat) : (k.leave x).stale = x :: k.stale := rfl
@[simp] theorem Slack.leave_leaving (k : Slack) (x : Nat) : (k.leave x).leaving = x :: k.leaving := rfl
@[simp] theorem Slack.stain_loose (k : Slack) (x : Nat) : (k.stain x).loose = k.loose := rfl
@[simp] theorem Slack.stain_stale (k : Slack) (x : Nat) : (k.stain x).stale = x :: k.stale := rfl
@[simp] theorem Slack.stain_leaving (k : Slack) (x : Nat) : (k.stain x).leaving = k.leaving := rfl

/-- The fault table agrees with the entries and the windows (R127, R131, R135). -/
structure State.FaultsTied (s : State) (k : Slack) : Prop where
  rising  : Table.rising s.domains = true
  room    : s.terms.length ≤ 512
  ids     : Table.distinct s.cores
  off     : ∀ x f, s.core? x = some f → x ∉ k.stale → f.off = s.linkCount x
  linked  : ∀ a e x, s.term? a = some e → e.link = some x → ∃ f, s.core? x = some f ∧ f.kind ≠ .unitLost
  decided : ∀ i x, s.windowOf i = .decided x → ∃ f, s.core? x = some f ∧ f.kind.onDomain = true ∧ f.subject = i

theorem State.FaultsTied.domains {s : State} {k : Slack} (h : s.FaultsTied k) : Table.distinct s.domains :=
  Table.distinct_of_rising h.rising

/-- The links between records, the windows of their subjects and the windows of held entries agree (R87, R107, R125,
R136), over domains whose references agree (R2, R16). -/
structure State.LinksTied (s : State) (k : Slack) : Prop where
  members  : ∀ a e, s.term? a = some e → s.levelAt e.prov.domain = some .splitter
  parents  : ∀ i o p, s.domain? i = some o → o.fields.parent = some p →
    s.levelAt p = o.fields.level.up ∧ o.fields.level ≠ .feeder
  channels : ∀ i o, s.domain? i = some o → o.fields.channel.isSome = true → o.fields.level = .feeder
  subject  : ∀ x f, s.core? x = some f → f.kind.onDomain = true → s.windowOf f.subject = .decided x
  count    : ∀ x f, s.core? x = some f → x ∉ k.stale → f.children = s.childCount k.leaving x
  parent   : ∀ x f p, s.core? x = some f → x ∉ k.leaving → f.parent = some p → p ∉ k.leaving ∧ ∃ g,
    s.core? p = some g ∧ f.kind.onDomain = true ∧ g.kind.onDomain = true ∧ s.rankAt f.subject < s.rankAt g.subject
  held     : ∀ a e, s.term? a = some e → e.held = true → e.prov.domain ∉ k.loose →
    (s.windowOf e.prov.domain).isOpen = true

/-- The agreement of the tables, to a depth and but for a slack. -/
structure State.Sound (d : Depth) (k : Slack) (s : State) : Prop where
  terms  : Table.distinct s.terms
  agrees : ∀ a e, s.term? a = some e → e.Agrees
  faults : d.Faults → s.FaultsTied k
  links  : d.Links → s.LinksTied k

theorem State.Sound.of_ties {s t : State} {d : Depth} {k : Slack} (h : s.Sound d k) (e : t.ties = s.ties) :
    t.Sound d k where
  terms := State.terms_of_ties e ▸ h.terms
  agrees := by simpa only [State.term?_of_ties e] using h.agrees
  faults := fun hd => by
    obtain ⟨hdomains, hroom, hids, hoff, hlinked, hdecided⟩ := h.faults hd
    refine ⟨State.domains_of_ties e ▸ hdomains, State.terms_of_ties e ▸ hroom, State.cores_of_ties e ▸ hids, ?_, ?_, ?_⟩ <;>
      simpa only [State.term?_of_ties e, State.core?_of_ties e, State.windowOf_of_ties e, State.linkCount_of_ties e]
  links := fun hd => by
    obtain ⟨hmembers, hparents, hchannels, hsubject, hcount, hparent, hheld⟩ := h.links hd
    constructor <;>
      simpa only [State.term?_of_ties e, State.core?_of_ties e, State.windowOf_of_ties e, State.domain?_of_ties e,
        State.levelAt_of_ties e, State.rankAt_of_ties e, State.childCount_of_ties e]

/-! ## From and to the statements -/

theorem State.Sound.termsAgree {s : State} {d : Depth} {k : Slack} (h : s.Sound d k) : s.TermsAgree :=
  fun e he => h.agrees e.1 e.2 (Table.get?_of_mem h.terms he)

theorem State.TermsAgree.sound {s : State} (h : s.TermsAgree) (hk : s.Keyed) : s.Sound .records .tight where
  terms := Table.distinct_of_rising hk.terms
  agrees := fun _ _ he => h _ (Table.mem_of_get? he)
  faults := False.elim
  links := False.elim

/-- A linked entry is not LIT, so it counts as off (R82, R135). -/
theorem State.linkCount_eq_off {s : State} (h : s.TermsAgree) (x : Nat) :
    s.linkCount x = Table.countWhere s.terms fun _ t => decide (t.link = some x) && decide (t.state ≠ .lit) := by
  refine Table.countWhere_congr fun a e he => ?_
  by_cases hlink : e.link = some x
  · have hfolded := (h _ he).folded (by simp [Terminal.folded, hlink])
    have hdark : e.state ≠ .lit := by
      rintro hlit
      simp [hlit, TState.isOff] at hfolded
    simp [hlink, hdark]
  · simp [hlink]

theorem State.cores_keys (s : State) : s.cores.map Prod.fst = s.faults.map Prod.fst := by
  simp [State.cores, Function.comp_def]

theorem State.core?_eq_some {s : State} {x : Nat} {c : FaultCore} :
    s.core? x = some c ↔ ∃ f, s.fault? x = some f ∧ f.core = c := by
  rw [State.core?_eq, Option.map_eq_some_iff]

theorem State.domain?_of_windowOf {s : State} {i : Nat} {w : Window} (h : s.windowOf i = w) (hw : w ≠ .quiet) :
    ∃ o, s.domain? i = some o ∧ o.window = w := by
  unfold State.windowOf at h
  cases hi : s.domain? i with
  | none => simp [hi] at h; exact absurd h.symm hw
  | some o => exact ⟨o, rfl, by simpa [hi] using h⟩

theorem State.windowOf_of_domain? {s : State} {i : Nat} {o : Domain} (h : s.domain? i = some o) :
    s.windowOf i = o.window := by simp [State.windowOf, h]

theorem State.FaultsAgree.tied {s : State} (h : s.FaultsAgree) (ht : s.TermsAgree) (hk : s.Keyed) :
    s.FaultsTied .tight where
  rising := hk.domains
  room := hk.termCount
  ids := Table.distinct_map h.ids FaultRecord.core
  off := fun x f hf _ => by
    obtain ⟨r, hr, rfl⟩ := State.core?_eq_some.mp hf
    rw [State.linkCount_eq_off ht]
    exact h.off _ (Table.mem_of_get? hr)
  linked := fun a e x he hx => by
    obtain ⟨f, hf, hkind⟩ := h.linked _ (Table.mem_of_get? he) x hx
    exact ⟨f.core, State.core?_of_fault? hf, hkind⟩
  decided := fun i x hw => by
    obtain ⟨o, ho, hwindow⟩ := State.domain?_of_windowOf hw (by simp)
    obtain ⟨f, hf, hkind, hsubject⟩ := h.decided _ (Table.mem_of_get? ho) x hwindow
    exact ⟨f.core, State.core?_of_fault? hf, hkind, hsubject⟩

theorem State.FaultsTied.faultsAgree {s : State} (h : s.FaultsTied .tight) (ht : s.TermsAgree)
    (hd : Table.distinct s.terms) : s.FaultsAgree := by
  have hids : Table.distinct s.faults := by
    have := h.ids
    rwa [Table.distinct, State.cores_keys] at this
  refine ⟨hids, fun e he => ?off, fun e he x hx => ?linked, fun e he x hw => ?decided⟩
  case off =>
    have hf : s.fault? e.1 = some e.2 := Table.get?_of_mem hids he
    rw [← State.linkCount_eq_off ht]
    exact h.off _ _ (State.core?_of_fault? hf) (by simp)
  case linked =>
    obtain ⟨c, hc, hkind⟩ := h.linked e.1 e.2 x (Table.get?_of_mem hd he) hx
    obtain ⟨f, hf, rfl⟩ := State.core?_eq_some.mp hc
    exact ⟨f, hf, hkind⟩
  case decided =>
    have ho : s.domain? e.1 = some e.2 := Table.get?_of_mem h.domains he
    obtain ⟨c, hc, hkind, hsubject⟩ := h.decided e.1 x ((State.windowOf_of_domain? ho).trans hw)
    obtain ⟨f, hf, rfl⟩ := State.core?_eq_some.mp hc
    exact ⟨f, hf, hkind, hsubject⟩

/-- The child count of a record that holds no other on its way out, as the statement writes it. -/
theorem State.childCount_nil (s : State) (x : Nat) :
    s.childCount [] x = Table.countWhere s.faults fun _ f => decide (f.parent = some x) := by
  rw [State.childCount, State.cores, Table.countWhere_map]
  simp only [FaultRecord.core_parent, List.not_mem_nil, not_false_eq_true, decide_true, Bool.and_true]
  rfl

theorem State.rankAt_of_domain? {s : State} {i : Nat} {o : Domain} (h : s.domain? i = some o) :
    s.rankAt i = o.fields.level.code + 1 := by simp [State.rankAt, State.levelAt, h]

theorem State.ChildrenAgree.tied {s : State} (h : s.ChildrenAgree) (hl : s.Linked) :
    s.LinksTied .tight where
  members := fun a e he => (hl.members _ (Table.mem_of_get? he)).1
  parents := fun i o p ho hp => hl.parents _ (Table.mem_of_get? ho) p hp
  channels := fun i o ho hc => hl.channels _ (Table.mem_of_get? ho) hc
  subject := fun x c hc hkind => by
    obtain ⟨f, hf, rfl⟩ := State.core?_eq_some.mp hc
    exact h.subject _ (Table.mem_of_get? hf) hkind
  count := fun x c hc _ => by
    obtain ⟨f, hf, rfl⟩ := State.core?_eq_some.mp hc
    rw [Slack.tight_leaving, State.childCount_nil]
    exact h.count _ (Table.mem_of_get? hf)
  parent := fun x c p hc _ hp => by
    obtain ⟨f, hf, rfl⟩ := State.core?_eq_some.mp hc
    obtain ⟨g, d, o, hg, hfk, hgk, hd, ho, hlt⟩ := h.parent _ (Table.mem_of_get? hf) p hp
    refine ⟨by simp, g.core, State.core?_of_fault? hg, hfk, hgk, ?_⟩
    rw [FaultRecord.core_subject, FaultRecord.core_subject, State.rankAt_of_domain? hd, State.rankAt_of_domain? ho]
    omega
  held := fun a e he hheld _ => h.held _ (Table.mem_of_get? he) hheld

theorem State.LinksTied.childrenAgree {s : State} (h : s.LinksTied .tight) (hf : s.FaultsTied .tight)
    (hd : Table.distinct s.terms) : s.ChildrenAgree := by
  have hids : Table.distinct s.faults := by
    have := hf.ids
    rwa [Table.distinct, State.cores_keys] at this
  have hcore : ∀ e ∈ s.faults, s.core? e.1 = some e.2.core := fun e he =>
    State.core?_of_fault? (Table.get?_of_mem hids he)
  refine ⟨fun e he hkind => h.subject _ _ (hcore e he) hkind, fun e he => ?count, fun e he p hp => ?parent,
    fun e he hheld => h.held _ _ (Table.get?_of_mem hd he) hheld (by simp)⟩
  case count =>
    rw [← State.childCount_nil]
    exact h.count _ _ (hcore e he) (by simp)
  case parent =>
    obtain ⟨-, c, hc, hek, hgk, hlt⟩ := h.parent _ _ p (hcore e he) (by simp) hp
    obtain ⟨g, hg, rfl⟩ := State.core?_eq_some.mp hc
    obtain ⟨d, hdom, -⟩ := State.domain?_of_windowOf (h.subject _ _ (hcore e he) hek) (by simp)
    obtain ⟨o, hodom, -⟩ := State.domain?_of_windowOf (h.subject _ _ hc hgk) (by simp)
    refine ⟨g, d, o, hg, hek, hgk, hdom, hodom, ?_⟩
    rw [State.rankAt_of_domain? hdom, State.rankAt_of_domain? hodom] at hlt
    omega

/-! ## Changes of the slack -/

section SlackChanges

variable {s : State} {d : Depth} {k : Slack}

theorem State.Sound.stain (h : s.Sound d k) (x : Nat) : s.Sound d (k.stain x) where
  terms := h.terms
  agrees := h.agrees
  faults := fun hd =>
    have hf := h.faults hd
    ⟨hf.rising, hf.room, hf.ids, fun y f hy hmem => hf.off y f hy (List.not_mem_of_not_mem_cons hmem), hf.linked,
      hf.decided⟩
  links := fun hd =>
    have hl := h.links hd
    ⟨hl.members, hl.parents, hl.channels, hl.subject,
      fun y f hy hmem => hl.count y f hy (List.not_mem_of_not_mem_cons hmem), hl.parent, hl.held⟩

/-- A record whose counts are right again stands open no more. -/
theorem State.Sound.unstain {x : Nat} (h : s.Sound d (k.stain x))
    (hoff : d.Faults → ∀ f, s.core? x = some f → x ∉ k.stale → f.off = s.linkCount x)
    (hchildren : d.Links → ∀ f, s.core? x = some f → x ∉ k.stale → f.children = s.childCount k.leaving x) :
    s.Sound d k where
  terms := h.terms
  agrees := h.agrees
  faults := fun hd => by
    have hf := h.faults hd
    refine ⟨hf.rising, hf.room, hf.ids, fun y f hy hmem => ?_, hf.linked, hf.decided⟩
    by_cases hyx : y = x
    · subst hyx; exact hoff hd f hy hmem
    · exact hf.off y f hy (by simp [hyx, hmem])
  links := fun hd => by
    have hl := h.links hd
    refine ⟨hl.members, hl.parents, hl.channels, hl.subject, fun y f hy hmem => ?_, hl.parent, hl.held⟩
    by_cases hyx : y = x
    · subst hyx; exact hchildren hd f hy hmem
    · exact hl.count y f hy (by simp [hyx, hmem])

/-- A SPLITTER whose held members have all gone stands open no more. -/
theorem State.Sound.unloosen {i : Nat} {ids U G : List Nat} (h : s.Sound d ⟨i :: ids, U, G⟩)
    (hheld : d.Links → ∀ a e, s.term? a = some e → e.held = true → e.prov.domain ≠ i) : s.Sound d ⟨ids, U, G⟩ where
  terms := h.terms
  agrees := h.agrees
  faults := fun hd =>
    have hf := h.faults hd
    ⟨hf.rising, hf.room, hf.ids, hf.off, hf.linked, hf.decided⟩
  links := fun hd => by
    have hl := h.links hd
    refine ⟨hl.members, hl.parents, hl.channels, hl.subject, hl.count, hl.parent, fun a e he hhe hmem => ?_⟩
    exact hl.held a e he hhe (by simp [hheld hd a e he hhe, hmem])

theorem State.Sound.loosen {ids U G : List Nat} (h : s.Sound d ⟨ids, U, G⟩) (i : Nat) : s.Sound d ⟨i :: ids, U, G⟩ where
  terms := h.terms
  agrees := h.agrees
  faults := fun hd =>
    have hf := h.faults hd
    ⟨hf.rising, hf.room, hf.ids, hf.off, hf.linked, hf.decided⟩
  links := fun hd =>
    have hl := h.links hd
    ⟨hl.members, hl.parents, hl.channels, hl.subject, hl.count, hl.parent,
      fun a e he hhe hmem => hl.held a e he hhe (List.not_mem_of_not_mem_cons hmem)⟩

end SlackChanges

/-! ## A change of one entry -/

theorem State.modTerm_term? (s : State) (a b : Nat) (g : Terminal → Terminal) :
    (s.modTerm a g).term? b = if b = a then (s.term? b).map g else s.term? b := Table.get?_modify ..

theorem State.modTerm_of_none {s : State} {a : Nat} (h : s.term? a = none) (g : Terminal → Terminal) :
    s.modTerm a g = s := by rw [State.modTerm, Table.modify_of_get?_none h]

/-- A change of one entry moves the link counts by that entry alone. -/
theorem State.modTerm_linkCount {s : State} (hd : Table.distinct s.terms) {a : Nat} {e : Terminal}
    (ha : s.term? a = some e) (g : Terminal → Terminal) (x : Nat) :
    (s.modTerm a g).linkCount x + (if e.link = some x then 1 else 0) =
      s.linkCount x + (if (g e).link = some x then 1 else 0) := by
  have hcount := Table.countWhere_modify hd ha g fun _ t => decide (t.link = some x)
  simp only [decide_eq_true_eq] at hcount
  exact hcount

/-- What a change of one entry asks: the new record agrees and names a SPLITTER; a hold that is new, or moves, stands in
an OPEN window; and where the link changes, the records it leaves and enters stand open, the one entered taking folds. -/
theorem State.Sound.replaceTerm {s : State} {d : Depth} {k : Slack} (h : s.Sound d k) {a : Nat} {e : Terminal}
    {g : Terminal → Terminal} (ha : s.term? a = some e) (hagrees : (g e).Agrees)
    (hdomain : d.Links → s.levelAt (g e).prov.domain = some .splitter)
    (hheld : d.Links → (g e).held = true → (g e).prov.domain = e.prov.domain ∧ e.held = true ∨
      (s.windowOf (g e).prov.domain).isOpen = true)
    (hlink : d.Faults → (g e).link = e.link ∨ (∀ x, e.link = some x → x ∈ k.stale) ∧
      ∀ x, (g e).link = some x → x ∈ k.stale ∧ ∃ f, s.core? x = some f ∧ f.kind ≠ .unitLost) :
    (s.modTerm a g).Sound d k := by
  have hother : ∀ b u, (s.modTerm a g).term? b = some u → b = a ∧ u = g e ∨ b ≠ a ∧ s.term? b = some u := by
    intro b u hu
    rw [State.modTerm_term?] at hu
    by_cases hb : b = a
    · subst hb
      rw [if_pos rfl, ha] at hu
      exact .inl ⟨rfl, (Option.some.inj hu).symm⟩
    · rw [if_neg hb] at hu
      exact .inr ⟨hb, hu⟩
  refine ⟨Table.distinct_modify h.terms a g, fun b u hu => ?agrees, fun hd => ?faults, fun hd => ?links⟩
  case agrees =>
    obtain ⟨-, rfl⟩ | ⟨-, hu⟩ := hother b u hu
    · exact hagrees
    · exact h.agrees b u hu
  case faults =>
    have hf := h.faults hd
    refine ⟨hf.rising, ?_, hf.ids, fun x f hx hmem => ?_, fun b u x hu hx => ?_, hf.decided⟩
    · exact (Table.length_modify s.terms a g).trans_le hf.room
    · have hcount := State.modTerm_linkCount h.terms ha g x
      rw [hf.off x f hx hmem]
      rcases hlink hd with hsame | ⟨hleft, hentered⟩
      · rw [hsame] at hcount
        omega
      · have hnotleft : e.link ≠ some x := fun hx => hmem (hleft x hx)
        have hnotentered : (g e).link ≠ some x := fun hx => hmem (hentered x hx).1
        rw [if_neg hnotleft, if_neg hnotentered] at hcount
        omega
    · obtain ⟨-, rfl⟩ | ⟨-, hu⟩ := hother b u hu
      · rcases hlink hd with hsame | ⟨-, hentered⟩
        · exact hf.linked a e x ha (hsame ▸ hx)
        · exact (hentered x hx).2
      · exact hf.linked b u x hu hx
  case links =>
    have hl := h.links hd
    refine ⟨fun b u hu => ?_, hl.parents, hl.channels, hl.subject, hl.count, hl.parent, fun b u hu hhu hmem => ?_⟩
    · obtain ⟨-, rfl⟩ | ⟨-, hu⟩ := hother b u hu
      · exact hdomain hd
      · exact hl.members b u hu
    · obtain ⟨-, rfl⟩ | ⟨-, hu⟩ := hother b u hu
      · rcases hheld hd hhu with ⟨hsame, hhe⟩ | hopen
        · rw [hsame] at hmem ⊢
          exact hl.held a e ha hhe hmem
        · exact hopen
      · exact hl.held b u hu hhu hmem

/-- A change of one entry that keeps its SPLITTER. -/
theorem State.Sound.changeTerm {s : State} {d : Depth} {k : Slack} (h : s.Sound d k) {a : Nat} {e : Terminal}
    {g : Terminal → Terminal} (ha : s.term? a = some e) (hagrees : (g e).Agrees)
    (hdomain : (g e).prov.domain = e.prov.domain)
    (hheld : d.Links → (g e).held = true → e.held = true ∨ (s.windowOf e.prov.domain).isOpen = true)
    (hlink : d.Faults → (g e).link = e.link ∨ (∀ x, e.link = some x → x ∈ k.stale) ∧
      ∀ x, (g e).link = some x → x ∈ k.stale ∧ ∃ f, s.core? x = some f ∧ f.kind ≠ .unitLost) :
    (s.modTerm a g).Sound d k :=
  h.replaceTerm ha hagrees (fun hd => hdomain ▸ (h.links hd).members a e ha)
    (fun hd hhe => (hheld hd hhe).imp (fun he => ⟨hdomain, he⟩) fun hopen => hdomain ▸ hopen) hlink

/-- A change of one entry that keeps its link and brings no new hold. -/
structure Terminal.Keeps (e u : Terminal) : Prop where
  agrees : e.Agrees → u.Agrees
  link   : u.link = e.link
  domain : u.prov.domain = e.prov.domain
  held   : u.held = true → e.held = true

theorem State.Sound.modTerm {s : State} {d : Depth} {k : Slack} (h : s.Sound d k) (a : Nat) {g : Terminal → Terminal}
    (hg : ∀ e, s.term? a = some e → e.Keeps (g e)) : (s.modTerm a g).Sound d k := by
  cases ha : s.term? a with
  | none => rwa [State.modTerm_of_none ha]
  | some e =>
    obtain ⟨hagrees, hlink, hdomain, hheld⟩ := hg e ha
    exact h.changeTerm ha (hagrees (h.agrees a e ha)) hdomain (fun _ hhe => .inl (hheld hhe)) fun _ => .inl hlink

/-! ## A change of one record's counts -/

theorem State.modFault_core? (s : State) (x y : Nat) {f : FaultRecord → FaultRecord} {g : FaultCore → FaultCore}
    (h : ∀ r, (f r).core = g r.core) :
    (s.modFault x f).core? y = if y = x then (s.core? y).map g else s.core? y := by
  rw [State.core?, s.modFault_cores x h, Table.get?_modify]
  rfl

theorem Table.countWhere_modify_same {α : Type} {t : Table α} (hd : Table.distinct t) {k : Nat} {f : α → α}
    {p : Nat → α → Bool} (h : ∀ v, Table.get? t k = some v → p k (f v) = p k v) :
    Table.countWhere (Table.modify t k f) p = Table.countWhere t p := by
  cases hk : Table.get? t k with
  | none => rw [Table.modify_of_get?_none hk]
  | some v =>
    have hcount := Table.countWhere_modify hd hk f p
    rw [h v hk] at hcount
    omega

/-- A record whose counts stand open takes any counts. -/
theorem State.Sound.modCounts {s : State} {d : Depth} {k : Slack} (h : s.Sound d k) {x : Nat} (hx : x ∈ k.stale)
    {f : FaultRecord → FaultRecord} {g : FaultCore → FaultCore} (hf : ∀ r, (f r).core = g r.core)
    (hg : ∀ c, (g c).kind = c.kind ∧ (g c).subject = c.subject ∧ (g c).parent = c.parent) :
    (s.modFault x f).Sound d k := by
  have hother : ∀ y c, (s.modFault x f).core? y = some c → ∃ c₀, s.core? y = some c₀ ∧ c.kind = c₀.kind ∧
      c.subject = c₀.subject ∧ c.parent = c₀.parent ∧ (y ≠ x → c = c₀) := by
    intro y c hc
    rw [s.modFault_core? x y hf] at hc
    by_cases hy : y = x
    · rw [if_pos hy] at hc
      obtain ⟨c₀, hc₀, rfl⟩ := Option.map_eq_some_iff.mp hc
      obtain ⟨hkind, hsubject, hparent⟩ := hg c₀
      exact ⟨c₀, hc₀, hkind, hsubject, hparent, fun hne => absurd hy hne⟩
    · rw [if_neg hy] at hc
      exact ⟨c, hc, rfl, rfl, rfl, fun _ => rfl⟩
  have hkeep : ∀ y c₀, s.core? y = some c₀ → ∃ c, (s.modFault x f).core? y = some c ∧ c.kind = c₀.kind ∧
      c.subject = c₀.subject := by
    intro y c₀ hc₀
    rw [s.modFault_core? x y hf]
    by_cases hy : y = x
    · obtain ⟨hkind, hsubject, -⟩ := hg c₀
      rw [if_pos hy, hc₀]; exact ⟨_, rfl, hkind, hsubject⟩
    · rw [if_neg hy]; exact ⟨c₀, hc₀, rfl, rfl⟩
  refine ⟨h.terms, h.agrees, fun hd => ?faults, fun hd => ?links⟩
  case faults =>
    have ht := h.faults hd
    refine ⟨ht.rising, ht.room, ?_, fun y c hc hmem => ?_, fun a e y he hy => ?_, fun i y hw => ?_⟩
    · rw [s.modFault_cores x hf]; exact Table.distinct_modify ht.ids x _
    · obtain ⟨c₀, hc₀, -, -, -, hsame⟩ := hother y c hc
      rw [hsame fun hyx => hmem (hyx ▸ hx)]
      exact ht.off y c₀ hc₀ hmem
    · obtain ⟨c₀, hc₀, hkind⟩ := ht.linked a e y he hy
      obtain ⟨c, hc, hck, -⟩ := hkeep y c₀ hc₀
      exact ⟨c, hc, hck ▸ hkind⟩
    · obtain ⟨c₀, hc₀, hkind, hsubject⟩ := ht.decided i y hw
      obtain ⟨c, hc, hck, hcs⟩ := hkeep y c₀ hc₀
      exact ⟨c, hc, hck ▸ hkind, hcs ▸ hsubject⟩
  case links =>
    have ht := h.faults hd.faults
    have hl := h.links hd
    have hcount : ∀ l y, (s.modFault x f).childCount l y = s.childCount l y := fun l y => by
      rw [State.childCount, s.modFault_cores x hf]
      refine Table.countWhere_modify_same ht.ids fun c _ => ?_
      obtain ⟨-, -, hparent⟩ := hg c
      rw [hparent]
    refine ⟨hl.members, hl.parents, hl.channels, fun y c hc hkind => ?_, fun y c hc hmem => ?_,
      fun y c p hc hmem hp => ?_, hl.held⟩
    · obtain ⟨c₀, hc₀, hck, hcs, -, -⟩ := hother y c hc
      rw [hcs]
      exact hl.subject y c₀ hc₀ (hck ▸ hkind)
    · obtain ⟨c₀, hc₀, -, -, -, hsame⟩ := hother y c hc
      rw [hcount, hsame fun hyx => hmem (hyx ▸ hx)]
      exact hl.count y c₀ hc₀ hmem
    · obtain ⟨c₀, hc₀, hck, hcs, hcp, -⟩ := hother y c hc
      obtain ⟨hpl, g₀, hg₀, hfk, hgk, hlt⟩ := hl.parent y c₀ p hc₀ hmem (hcp ▸ hp)
      obtain ⟨g, hg, hggk, hggs⟩ := hkeep p g₀ hg₀
      refine ⟨hpl, g, hg, hck ▸ hfk, hggk ▸ hgk, ?_⟩
      rw [hcs, hggs]
      exact hlt

end Sys2Proof.Machine

namespace Sys2Proof.Machine

/-! ## An entry that enters or leaves a record (R95, R96, R135) -/

theorem State.modTerm_core? (s : State) (a x : Nat) (g : Terminal → Terminal) : (s.modTerm a g).core? x = s.core? x := rfl

theorem Terminal.Agrees.not_folded_of_held {e : Terminal} (h : e.Agrees) (hheld : e.held = true) : e.link = none := by
  cases hlink : e.link with
  | none => rfl
  | some x =>
    have hfolded := h.folded (by simp [Terminal.folded, hlink])
    cases hst : e.state <;> simp [Terminal.held, TState.isHeld, TState.isOff, hst] at hheld hfolded

theorem Terminal.Agrees.foldedInto {e : Terminal} (h : e.Agrees) (hdark : e.held = true ∨ e.state.isOff = true)
    (x : Nat) : (e.foldedInto x).Agrees := by
  obtain ⟨hgasp, hhold, hsince, hprior, -, hlit, -⟩ := h
  cases hst : e.state <;> simp [Terminal.held, TState.isHeld, TState.isOff, hst] at hdark <;>
    constructor <;>
    simp_all [Terminal.foldedInto, Terminal.leaveHold, Terminal.enter, Terminal.folded, TState.isOff]

theorem State.modFault_childCount {s : State} (hd : Table.distinct s.cores) (x : Nat) {f : FaultRecord → FaultRecord}
    {g : FaultCore → FaultCore} (hf : ∀ r, (f r).core = g r.core) (hg : ∀ c, (g c).parent = c.parent) (l : List Nat)
    (y : Nat) : (s.modFault x f).childCount l y = s.childCount l y := by
  rw [State.childCount, s.modFault_cores x hf]
  exact Table.countWhere_modify_same hd fun c _ => by rw [hg]

/-- The core of a record that takes a fold (R135). -/
def FaultCore.addOff (c : FaultCore) : FaultCore := { c with off := satInc 512 c.off }
/-- The core of a record that a linked entry leaves (R135). -/
def FaultCore.dropOff (c : FaultCore) : FaultCore := { c with off := c.off - 1 }
/-- The core of a record that a linked child leaves (R136). -/
def FaultCore.dropChild (c : FaultCore) : FaultCore := { c with children := c.children - 1 }

theorem State.foldTerm_eq (s : State) (x a : Nat) : s.foldTerm x a =
    (s.modTerm a fun t => t.foldedInto x).modFault x fun f =>
      { f with affected := satInc 512 f.affected, off := satInc 512 f.off } := rfl

theorem FaultRecord.core_addOff (r : FaultRecord) :
    ({ r with affected := satInc 512 r.affected, off := satInc 512 r.off } : FaultRecord).core = r.core.addOff := rfl
theorem FaultRecord.core_dropOff (r : FaultRecord) :
    ({ r with off := r.off - 1 } : FaultRecord).core = r.core.dropOff := rfl
theorem FaultRecord.core_dropChild (r : FaultRecord) :
    ({ r with children := r.children - 1 } : FaultRecord).core = r.core.dropChild := rfl

/-- A held or off entry that is not folded folds into an open record that takes folds. -/
theorem State.Sound.foldTerm {s : State} {d : Depth} {k : Slack} (h : s.Sound d k) {a x : Nat} {e : Terminal}
    (ha : s.term? a = some e) (hdark : e.held = true ∨ e.state.isOff = true) (hlink : e.link = none)
    (hx : d.Faults → ∃ f, s.core? x = some f ∧ f.kind ≠ .unitLost) : (s.foldTerm x a).Sound d k := by
  have hfold : ((s.modTerm a fun t => t.foldedInto x)).Sound d (k.stain x) := by
    refine (h.stain x).changeTerm ha ((h.agrees a e ha).foldedInto hdark x) ?_ (fun _ hheld => ?_) fun hd => .inr ⟨?_, ?_⟩
    · simp [Terminal.foldedInto]
    · rw [Terminal.foldedInto_held] at hheld; cases hheld
    · simp [hlink]
    · rintro y hy
      obtain rfl : x = y := Option.some.inj hy
      exact ⟨by simp, hx hd⟩
  have hcounts := hfold.modCounts (x := x) (by simp) FaultRecord.core_addOff fun _ => ⟨rfl, rfl, rfl⟩
  rw [State.foldTerm_eq]
  refine State.Sound.unstain hcounts (fun hd f hf hmem => ?_) fun hd f hf hmem => ?_
  · rw [State.modFault_core? _ x x FaultRecord.core_addOff, if_pos rfl] at hf
    obtain ⟨f₀, hf₀, rfl⟩ := Option.map_eq_some_iff.mp hf
    have hoff := (h.faults hd).off x f₀ hf₀ hmem
    have hcount := State.modTerm_linkCount h.terms ha (fun t => t.foldedInto x) x
    have hle : (s.modTerm a fun t => t.foldedInto x).linkCount x ≤ 512 :=
      (Table.countWhere_le_length ..).trans (hfold.faults hd).room
    rw [hlink, if_neg (by simp), if_pos (show (e.foldedInto x).link = some x from rfl)] at hcount
    change satInc 512 f₀.off = (s.modTerm a fun t => t.foldedInto x).linkCount x
    unfold satInc
    omega
  · have hids := (hfold.faults hd.faults).ids
    rw [State.modFault_core? _ x x FaultRecord.core_addOff, if_pos rfl] at hf
    obtain ⟨f₀, hf₀, rfl⟩ := Option.map_eq_some_iff.mp hf
    exact ((h.links hd).count x f₀ hf₀ hmem).trans (State.modFault_childCount hids x FaultRecord.core_addOff (fun _ => rfl) ..).symm

/-- A linked entry leaves its record, whose off count falls by one. -/
theorem State.Sound.leaveFault {s : State} {d : Depth} {k : Slack} (h : s.Sound d k) {a x : Nat} {e : Terminal}
    {g : Terminal → Terminal} (ha : s.term? a = some e) (hx : e.link = some x) (hagrees : (g e).Agrees)
    (hdomain : (g e).prov.domain = e.prov.domain) (hheld : (g e).held = true → e.held = true)
    (hlink : (g e).link = none) :
    ((s.modTerm a g).modFault x fun f => { f with off := f.off - 1 }).Sound d k := by
  have hleft : (s.modTerm a g).Sound d (k.stain x) := by
    refine (h.stain x).changeTerm ha hagrees hdomain (fun _ hhe => .inl (hheld hhe)) fun _ => .inr ⟨?_, ?_⟩
    · rintro y hy
      obtain rfl : x = y := Option.some.inj (hx.symm.trans hy)
      simp
    · simp [hlink]
  have hcounts := hleft.modCounts (x := x) (by simp) FaultRecord.core_dropOff fun _ => ⟨rfl, rfl, rfl⟩
  refine State.Sound.unstain hcounts (fun hd f hf hmem => ?_) fun hd f hf hmem => ?_
  · rw [State.modFault_core? _ x x FaultRecord.core_dropOff, if_pos rfl] at hf
    obtain ⟨f₀, hf₀, rfl⟩ := Option.map_eq_some_iff.mp hf
    have hoff := (h.faults hd).off x f₀ hf₀ hmem
    have hcount := State.modTerm_linkCount h.terms ha g x
    rw [if_pos hx, hlink, if_neg (by simp)] at hcount
    change f₀.off - 1 = (s.modTerm a g).linkCount x
    omega
  · have hids := (hleft.faults hd.faults).ids
    rw [State.modFault_core? _ x x FaultRecord.core_dropOff, if_pos rfl] at hf
    obtain ⟨f₀, hf₀, rfl⟩ := Option.map_eq_some_iff.mp hf
    exact ((h.links hd).count x f₀ hf₀ hmem).trans (State.modFault_childCount hids x FaultRecord.core_dropOff (fun _ => rfl) ..).symm

/-! ## A record on its way out (R131, R139) -/

/-- Two conditions that differ at one key count differently by that key alone. -/
theorem Table.countWhere_except {α : Type} {t : Table α} (hd : Table.distinct t) {k : Nat} {v : α}
    (hk : Table.get? t k = some v) {p q : Nat → α → Bool} (h : ∀ j w, j ≠ k → p j w = q j w) :
    Table.countWhere t p + (if q k v = true then 1 else 0) = Table.countWhere t q + (if p k v = true then 1 else 0) := by
  have hp := Table.countWhere_erase hd hk p
  have hq := Table.countWhere_erase hd hk q
  have hsame : Table.countWhere (Table.erase t k) p = Table.countWhere (Table.erase t k) q := by
    refine Table.countWhere_congr fun j w hj => h j w ?_
    rintro rfl
    simp [Table.erase] at hj
  omega

/-- A record on its way out is one child less of its parent. -/
theorem State.childCount_leave {s : State} (hd : Table.distinct s.cores) {x : Nat} {f : FaultCore}
    (hx : s.core? x = some f) {l : List Nat} (hmem : x ∉ l) (y : Nat) :
    s.childCount l y = s.childCount (x :: l) y + (if f.parent = some y then 1 else 0) := by
  have hcount := Table.countWhere_except hd hx (p := fun z g => decide (g.parent = some y) && decide (z ∉ l))
    (q := fun z g => decide (g.parent = some y) && decide (z ∉ x :: l)) fun z g hz => by simp [hz]
  simpa [hmem, State.childCount] using hcount

theorem State.childCount_leave_none {s : State} {x : Nat} (hx : s.core? x = none) (l : List Nat) (y : Nat) :
    s.childCount (x :: l) y = s.childCount l y := by
  refine Table.countWhere_congr fun z g hz => ?_
  have hne : z ≠ x := by
    rintro rfl
    exact Table.get?_eq_none_iff.mp hx (List.mem_map_of_mem (f := Prod.fst) hz)
  simp [hne]

/-- No record that stays is linked to a record without counted children. -/
theorem State.parent_ne_of_childCount {s : State} {l : List Nat} {x : Nat} (h : s.childCount l x = 0) {y : Nat}
    {f : FaultCore} (hy : s.core? y = some f) (hmem : y ∉ l) : f.parent ≠ some x := by
  have hcount := Table.countWhere_eq_zero.mp h y f (Table.mem_of_get? hy)
  simpa [hmem] using hcount

section Leaving

variable {s : State} {d : Depth} {k : Slack}

/-- A top record with no child left may go. -/
theorem State.Sound.leaveTop (h : s.Sound d k) {x : Nat} (hout : d.Links → x ∉ k.leaving ∧
    s.childCount k.leaving x = 0 ∧ ∃ f, s.core? x = some f ∧ f.parent = none) : s.Sound d (k.leave x) := by
  have hstain := h.stain x
  refine ⟨h.terms, h.agrees, fun hd => ?faults, fun hd => ?links⟩
  case faults =>
    obtain ⟨hdomains, hroom, hids, hoff, hlinked, hdecided⟩ := hstain.faults hd
    exact ⟨hdomains, hroom, hids, hoff, hlinked, hdecided⟩
  case links =>
    have hf := h.faults hd.faults
    have hl := hstain.links hd
    obtain ⟨hmem, hno, f, hx, hparent⟩ := hout hd
    refine ⟨hl.members, hl.parents, hl.channels, hl.subject, fun y g hy hstale => ?_, fun y g p hy hleave hp => ?_,
      hl.held⟩
    · rw [hl.count y g hy hstale]
      have hcount := State.childCount_leave hf.ids hx hmem y
      simpa [hparent] using hcount
    · have hleave' : y ∉ k.leaving := List.not_mem_of_not_mem_cons hleave
      obtain ⟨hpl, hrest⟩ := hl.parent y g p hy hleave' hp
      refine ⟨?_, hrest⟩
      rw [Slack.leave_leaving, List.mem_cons, not_or]
      refine ⟨?_, hpl⟩
      rintro rfl
      exact State.parent_ne_of_childCount hno hy hleave' hp

theorem State.dropChild_core? (s : State) (p y : Nat) :
    (s.dropChild p).core? y = if y = p then (s.core? y).map FaultCore.dropChild else s.core? y :=
  s.modFault_core? p y FaultRecord.core_dropChild

/-- A linked record with no child left takes itself out of its parent's child count, and may go. -/
theorem State.Sound.leaveParent (h : s.Sound d k) {x p : Nat} (hout : d.Links → x ∉ k.leaving ∧
    s.childCount k.leaving x = 0 ∧ ∃ f, s.core? x = some f ∧ f.parent = some p) :
    (s.dropChild p).Sound d (k.leave x) := by
  have hstain := ((h.stain x).stain p).modCounts (x := p) (by simp) FaultRecord.core_dropChild
    fun _ => ⟨rfl, rfl, rfl⟩
  refine ⟨h.terms, h.agrees, fun hd => ?faults, fun hd => ?links⟩
  case faults =>
    obtain ⟨hdomains, hroom, hids, -, hlinked, hdecided⟩ := hstain.faults hd
    refine ⟨hdomains, hroom, hids, fun y g hy hstale => ?_, hlinked, hdecided⟩
    rw [State.dropChild_core?] at hy
    split at hy
    · obtain ⟨g₀, hg₀, rfl⟩ := Option.map_eq_some_iff.mp hy
      exact (h.faults hd).off y g₀ hg₀ (List.not_mem_of_not_mem_cons hstale)
    · exact (h.faults hd).off y g hy (List.not_mem_of_not_mem_cons hstale)
  case links =>
    have hf := h.faults hd.faults
    obtain ⟨hmem, hno, f, hx, hparent⟩ := hout hd
    obtain ⟨hmembers, hparents, hchannels, hsubject, -, hpar, hheld⟩ := hstain.links hd
    refine ⟨hmembers, hparents, hchannels, hsubject, fun y g hy hstale => ?_, fun y g q hy hleave hq => ?_, hheld⟩
    · have hsame : (s.dropChild p).childCount (x :: k.leaving) y = s.childCount (x :: k.leaving) y :=
        State.modFault_childCount hf.ids p FaultRecord.core_dropChild (fun _ => rfl) ..
      have hcount := State.childCount_leave hf.ids hx hmem y
      have hstale' : y ∉ k.stale := List.not_mem_of_not_mem_cons hstale
      rw [Slack.leave_leaving, hsame]
      rw [State.dropChild_core?] at hy
      split at hy
      · next hyp =>
        obtain ⟨g₀, hg₀, rfl⟩ := Option.map_eq_some_iff.mp hy
        have hchildren := (h.links hd).count y g₀ hg₀ hstale'
        rw [hparent, if_pos (by rw [hyp])] at hcount
        change g₀.children - 1 = _
        omega
      · next hyp =>
        have hchildren := (h.links hd).count y g hy hstale'
        rw [hparent, if_neg (by simpa using fun h => hyp h.symm)] at hcount
        omega
    · have hleave' : y ∉ k.leaving := List.not_mem_of_not_mem_cons hleave
      obtain ⟨hql, hrest⟩ := hpar y g q hy hleave' hq
      refine ⟨?_, hrest⟩
      have hno' : (s.dropChild p).childCount k.leaving x = 0 :=
        (State.modFault_childCount hf.ids p FaultRecord.core_dropChild (fun _ => rfl) ..).trans hno
      rw [Slack.leave_leaving, List.mem_cons, not_or]
      refine ⟨?_, hql⟩
      rintro rfl
      exact State.parent_ne_of_childCount hno' hy hleave' hq

end Leaving

/-! ## Removal (R131) -/

theorem State.removeFault_of_none {s : State} {x : Nat} (h : s.fault? x = none) : s.removeFault x = s := by
  simp [State.removeFault, h]

theorem State.removeFault_terms (s : State) (x : Nat) : (s.removeFault x).terms = s.terms := by
  unfold State.removeFault
  split
  · rfl
  · dsimp only
    split <;> rfl

theorem State.removeFault_term? (s : State) (x a : Nat) : (s.removeFault x).term? a = s.term? a := by
  rw [State.term?, State.removeFault_terms]; rfl

theorem State.removeFault_notices (s : State) (x : Nat) : (s.removeFault x).notices = s.notices := by
  unfold State.removeFault
  split
  · rfl
  · dsimp only
    split <;> rfl

theorem State.removeFault_faults (s : State) (x : Nat) : (s.removeFault x).faults = Table.erase s.faults x := by
  cases hx : s.fault? x with
  | none => rw [State.removeFault_of_none hx, Table.erase_of_get?_none hx]
  | some f =>
    simp only [State.removeFault, hx]
    split <;> rfl

theorem State.removeFault_fault? (s : State) (x y : Nat) :
    (s.removeFault x).fault? y = if y = x then none else s.fault? y := by
  rw [State.fault?, State.removeFault_faults, Table.get?_erase]
  rfl

theorem State.removeFault_cores (s : State) (x : Nat) : (s.removeFault x).cores = Table.erase s.cores x := by
  rw [State.cores, State.removeFault_faults, Table.map_erase]
  rfl

theorem State.removeFault_core? (s : State) (x y : Nat) :
    (s.removeFault x).core? y = if y = x then none else s.core? y := by
  rw [State.core?, State.removeFault_cores, Table.get?_erase]
  rfl

theorem State.modDomain_domain? (s : State) (i j : Nat) (f : Domain → Domain) :
    (s.modDomain i f).domain? j = if j = i then (s.domain? j).map f else s.domain? j := Table.get?_modify ..

/-- The subject domain of a record that goes leaves DECIDED; no other window changes (R131). -/
theorem State.removeFault_windowOf {s : State} {x : Nat} {f : FaultRecord} (hx : s.fault? x = some f) (i : Nat) :
    (s.removeFault x).windowOf i =
      if f.kind.onDomain = true ∧ i = f.subject ∧ s.windowOf i = .decided x then .quiet else s.windowOf i := by
  simp only [State.removeFault, hx]
  split
  · next hon =>
    unfold State.windowOf
    rw [State.modDomain_domain?]
    change ((if i = f.subject then (s.domain? i).map _ else s.domain? i).map Domain.window).getD .quiet = _
    by_cases hi : i = f.subject
    · cases hdom : s.domain? i with
      | none => simp [hon]
      | some o => by_cases hw : o.window = .decided x <;> simp [hon, hi, hw]
    · simp [hi]
  · next hon =>
    rw [if_neg fun h => hon h.1]
    rfl

theorem State.levelAt_of_kept {s t : State} (h : t.kept = s.kept) (i : Nat) : t.levelAt i = s.levelAt i := by
  have hlevel (x : State) : x.levelAt i =
      (Table.get? (x.domains.map fun e => (e.1, e.2.fields)) i).map DomainFields.level := by
    rw [Table.get?_map, Option.map_map]; rfl
  rw [hlevel, hlevel, State.domainFields_of_kept h]

theorem State.rankAt_of_kept {s t : State} (h : t.kept = s.kept) (i : Nat) : t.rankAt i = s.rankAt i := by
  rw [State.rankAt, State.levelAt_of_kept h]; rfl

/-- A domain record keeps its provisioned fields. -/
theorem State.domain?_of_kept {s t : State} (h : t.kept = s.kept) {i : Nat} {o : Domain} (ho : t.domain? i = some o) :
    ∃ o', s.domain? i = some o' ∧ o'.fields = o.fields := by
  have hfields (x : State) : (x.domain? i).map Domain.fields =
      Table.get? (x.domains.map fun e => (e.1, e.2.fields)) i := by rw [Table.get?_map]; rfl
  have hsame : (t.domain? i).map Domain.fields = (s.domain? i).map Domain.fields := by
    rw [hfields, hfields, State.domainFields_of_kept h]
  rw [ho, Option.map_some] at hsame
  exact Option.map_eq_some_iff.mp hsame.symm

theorem State.rising_domains_of_kept {s t : State} (h : t.kept = s.kept) (hd : Table.rising s.domains = true) :
    Table.rising t.domains = true := by
  rw [Table.rising_iff, State.domainKeys_of_kept h]
  exact (Table.rising_iff _).mp hd

/-- References among domains, and of entries to them, stand on the provisioned fields alone. -/
theorem State.LinksTied.refs_of_kept {s t : State} {k : Slack} (h : s.LinksTied k) (e : t.kept = s.kept) :
    (∀ i o p, t.domain? i = some o → o.fields.parent = some p →
      t.levelAt p = o.fields.level.up ∧ o.fields.level ≠ .feeder) ∧
    (∀ i o, t.domain? i = some o → o.fields.channel.isSome = true → o.fields.level = .feeder) := by
  refine ⟨fun i o p ho hp => ?_, fun i o ho hc => ?_⟩ <;>
    obtain ⟨o', ho', hfields⟩ := State.domain?_of_kept e ho
  · rw [← hfields] at hp ⊢
    rw [State.levelAt_of_kept e]
    exact h.parents i o' p ho' hp
  · rw [← hfields] at hc ⊢
    exact h.channels i o' ho' hc

/-- A record on its way out, with no entry linked to it, goes. -/
theorem State.Sound.removeFault {s : State} {d : Depth} {k : Slack} {x : Nat} (h : s.Sound d (k.leave x))
    (hlinks : d.Faults → s.linkCount x = 0) : (s.removeFault x).Sound d k := by
  cases hx : s.fault? x with
  | none =>
    have hnone := State.core?_eq_none.mpr hx
    rw [State.removeFault_of_none hx]
    refine State.Sound.unstain (x := x) ⟨h.terms, h.agrees, fun hd => ?_, fun hd => ?_⟩ ?_ ?_
    · obtain ⟨hdomains, hroom, hids, hoff, hlinked, hdecided⟩ := h.faults hd
      exact ⟨hdomains, hroom, hids, hoff, hlinked, hdecided⟩
    · have hl := h.links hd
      refine ⟨hl.members, hl.parents, hl.channels, hl.subject, fun y f hy hmem => ?_, fun y f p hy hmem hp => ?_, hl.held⟩
      · exact (hl.count y f hy hmem).trans (State.childCount_leave_none hnone ..)
      · have hne : y ≠ x := by rintro rfl; rw [hnone] at hy; cases hy
        obtain ⟨hpl, hrest⟩ := hl.parent y f p hy (by simpa [hne] using hmem) hp
        exact ⟨List.not_mem_of_not_mem_cons hpl, hrest⟩
    · exact fun _ f hf => by rw [hnone] at hf; cases hf
    · exact fun _ f hf => by rw [hnone] at hf; cases hf
  | some f =>
    have hkept := s.removeFault_kept x
    have hcx : s.core? x = some f.core := State.core?_of_fault? hx
    have hstay : ∀ y c, (s.removeFault x).core? y = some c → y ≠ x ∧ s.core? y = some c := by
      intro y c hc
      rw [State.removeFault_core?] at hc
      split at hc
      · cases hc
      · next hy => exact ⟨hy, hc⟩
    have hgo : ∀ y c, s.core? y = some c → y ≠ x → (s.removeFault x).core? y = some c := by
      intro y c hc hy
      rw [State.removeFault_core?, if_neg hy, hc]
    have hwindow : ∀ i y, (s.removeFault x).windowOf i = .decided y → s.windowOf i = .decided y := by
      intro i y hw
      rw [State.removeFault_windowOf hx] at hw
      split at hw
      · cases hw
      · exact hw
    refine ⟨s.removeFault_terms x ▸ h.terms, fun a e he => h.agrees a e (s.removeFault_term? x a ▸ he), fun hd => ?faults,
      fun hd => ?links⟩
    case faults =>
      have hf := h.faults hd
      refine ⟨State.rising_domains_of_kept hkept hf.rising, s.removeFault_terms x ▸ hf.room, ?_, fun y c hc hmem => ?_,
        fun a e y he hy => ?_, fun i y hw => ?_⟩
      · rw [State.removeFault_cores]; exact Table.distinct_erase hf.ids x
      · obtain ⟨hne, hc⟩ := hstay y c hc
        rw [State.linkCount, State.removeFault_terms]
        exact hf.off y c hc (by simpa [hne] using hmem)
      · rw [State.removeFault_term?] at he
        obtain ⟨c, hc, hkind⟩ := hf.linked a e y he hy
        refine ⟨c, hgo y c hc ?_, hkind⟩
        rintro rfl
        have hunlinked := Table.countWhere_eq_zero.mp (hlinks hd) a e (Table.mem_of_get? he)
        simp [hy] at hunlinked
      · have hw' := hwindow i y hw
        obtain ⟨c, hc, hkind, hsubject⟩ := hf.decided i y hw'
        refine ⟨c, hgo y c hc ?_, hkind, hsubject⟩
        rintro rfl
        obtain rfl : f.core = c := Option.some.inj (hcx.symm.trans hc)
        rw [State.removeFault_windowOf hx, if_pos ⟨hkind, hsubject.symm, hw'⟩] at hw
        cases hw
    case links =>
      have hf := h.faults hd.faults
      have hl := h.links hd
      obtain ⟨hparents, hchannels⟩ := hl.refs_of_kept hkept
      refine ⟨fun a e he => ?_, hparents, hchannels, fun y c hc hkind => ?_, fun y c hc hmem => ?_,
        fun y c p hc hmem hp => ?_, fun a e he hheld hmem => ?_⟩
      · rw [State.levelAt_of_kept hkept]
        exact hl.members a e (s.removeFault_term? x a ▸ he)
      · obtain ⟨hne, hc⟩ := hstay y c hc
        have hw := hl.subject y c hc hkind
        rw [State.removeFault_windowOf hx, if_neg, hw]
        rw [hw]
        rintro ⟨-, -, heq⟩
        cases heq
        exact hne rfl
      · obtain ⟨hne, hc⟩ := hstay y c hc
        rw [hl.count y c hc (by simpa [hne] using hmem), Slack.leave_leaving, State.childCount, State.childCount,
          State.removeFault_cores]
        have hcount := Table.countWhere_erase hf.ids hcx fun z g => decide (g.parent = some y) && decide (z ∉ x :: k.leaving)
        simp only [List.mem_cons, true_or, not_true_eq_false, decide_false, Bool.and_false, Bool.false_eq_true, if_false,
          Nat.add_zero] at hcount
        simp only [List.mem_cons]
        rw [← hcount]
        refine Table.countWhere_congr fun z g hz => ?_
        have hzx : z ≠ x := by rintro rfl; simp [Table.erase] at hz
        simp [hzx]
      · obtain ⟨hne, hc⟩ := hstay y c hc
        obtain ⟨hpl, g, hg, hck, hgk, hlt⟩ := hl.parent y c p hc (by simpa [hne] using hmem) hp
        obtain ⟨hpx, hpl⟩ : p ≠ x ∧ p ∉ k.leaving := by simpa using hpl
        refine ⟨hpl, g, hgo p g hg hpx, hck, hgk, ?_⟩
        rw [State.rankAt_of_kept hkept, State.rankAt_of_kept hkept]
        exact hlt
      · rw [State.removeFault_term?] at he
        have hopen := hl.held a e he hheld hmem
        rw [State.removeFault_windowOf hx, if_neg, hopen]
        rintro ⟨-, -, hw⟩
        simp [hw, Window.isOpen] at hopen

end Sys2Proof.Machine

namespace Sys2Proof.Machine

/-! ## Windows (R107, R110, R111) -/

theorem State.modDomain_windowOf (s : State) (i j : Nat) (f : Domain → Domain) : (s.modDomain i f).windowOf j =
    if j = i then ((s.domain? i).map fun o => (f o).window).getD .quiet else s.windowOf j := by
  unfold State.windowOf
  rw [State.modDomain_domain?]
  by_cases hj : j = i
  · subst hj; simp [Function.comp_def]
  · simp [hj]

/-- A change of windows alone, none of them to or from DECIDED; where one stops being OPEN, no entry is held in it, or
those that are stand open. -/
theorem State.Sound.changeWindows {s t : State} {d : Depth} {k : Slack} (h : s.Sound d k) (hkept : t.kept = s.kept)
    (hterms : t.terms = s.terms) (hcores : t.cores = s.cores)
    (hdecided : d.Faults → ∀ j x, t.windowOf j = .decided x ↔ s.windowOf j = .decided x)
    (hheld : d.Links → ∀ j, j ∈ k.loose ∨ ((s.windowOf j).isOpen = true → (t.windowOf j).isOpen = true) ∨
      ∀ a e, s.term? a = some e → e.held = true → e.prov.domain ≠ j) : t.Sound d k := by
  have hterm : ∀ a, t.term? a = s.term? a := fun a => by rw [State.term?, hterms]; rfl
  have hcore : ∀ x, t.core? x = s.core? x := fun x => by rw [State.core?, hcores]; rfl
  have hlinks : ∀ x, t.linkCount x = s.linkCount x := fun x => by rw [State.linkCount, hterms]; rfl
  refine ⟨hterms ▸ h.terms, fun a e he => h.agrees a e (hterm a ▸ he), fun hd => ?faults, fun hd => ?links⟩
  case faults =>
    have hf := h.faults hd
    refine ⟨State.rising_domains_of_kept hkept hf.rising, hterms ▸ hf.room, hcores ▸ hf.ids, fun x f hx hmem => ?_,
      fun a e x he hx => ?_, fun j x hw => ?_⟩
    · rw [hlinks]; exact hf.off x f (hcore x ▸ hx) hmem
    · rw [hcore]; exact hf.linked a e x (hterm a ▸ he) hx
    · rw [hcore]; exact hf.decided j x ((hdecided hd j x).mp hw)
  case links =>
    have hl := h.links hd
    obtain ⟨hparents, hchannels⟩ := hl.refs_of_kept hkept
    have hchildren : ∀ y, t.childCount k.leaving y = s.childCount k.leaving y := fun y => by
      rw [State.childCount, hcores]; rfl
    refine ⟨fun a e he => ?_, hparents, hchannels, fun x c hc hkind => ?_, fun x c hc hmem => ?_,
      fun y c p hc hmem hp => ?_, fun a e he hhe hmem => ?_⟩
    · rw [State.levelAt_of_kept hkept]; exact hl.members a e (hterm a ▸ he)
    · exact (hdecided hd.faults _ _).mpr (hl.subject x c (hcore x ▸ hc) hkind)
    · rw [hchildren]; exact hl.count x c (hcore x ▸ hc) hmem
    · obtain ⟨hpl, g, hg, hck, hgk, hlt⟩ := hl.parent y c p (hcore y ▸ hc) hmem hp
      refine ⟨hpl, g, (hcore p).trans hg, hck, hgk, ?_⟩
      rw [State.rankAt_of_kept hkept, State.rankAt_of_kept hkept]
      exact hlt
    · have hopen := hl.held a e (hterm a ▸ he) hhe hmem
      rcases hheld hd e.prov.domain with hloose | hstay | hno
      · exact absurd hloose hmem
      · exact hstay hopen
      · exact absurd rfl (hno a e (hterm a ▸ he) hhe)

/-- A window that holds no record takes any state that holds none. -/
theorem State.Sound.modWindow {s : State} {d : Depth} {k : Slack} (h : s.Sound d k) {i : Nat} {f : Domain → Domain}
    (hfields : ∀ o, (f o).fields = o.fields) (hold : ∀ x, s.windowOf i ≠ .decided x)
    (hnew : ∀ o x, s.domain? i = some o → (f o).window ≠ .decided x)
    (hheld : d.Links → i ∈ k.loose ∨ (∀ o, s.domain? i = some o → o.window.isOpen = true → (f o).window.isOpen = true) ∨
      ∀ a e, s.term? a = some e → e.held = true → e.prov.domain ≠ i) : (s.modDomain i f).Sound d k := by
  refine h.changeWindows (State.modDomain_kept s i f hfields) rfl rfl (fun _ j x => ?_) fun hd j => ?_ <;>
    rw [State.modDomain_windowOf]
  · split
    · next hj =>
      subst hj
      refine iff_of_false (fun hw => ?_) (hold x)
      cases hi : s.domain? j with
      | none => simp [hi] at hw
      | some o => exact hnew o x hi (by simpa [hi] using hw)
    · exact Iff.rfl
  · split
    · next hj =>
      subst hj
      refine (hheld hd).imp_right fun hrest => hrest.imp_left fun hstay hopen => ?_
      cases hi : s.domain? j with
      | none => simp [State.windowOf, hi] at hopen
      | some o =>
        rw [State.windowOf_of_domain? hi] at hopen
        exact hstay o hi hopen
    · exact .inr (.inl id)

theorem State.openWindow_ties (s : State) (i : Nat) : ∃ start stop cap,
    (s.openWindow i).ties = (s.modDomain i fun o => { o with window := .open start stop cap }).ties := by
  unfold State.openWindow
  cases hi : s.domain? i with
  | none =>
    refine ⟨0, 0, 0, ?_⟩
    rw [State.modDomain, Table.modify_of_get?_none hi]
  | some o => exact ⟨_, _, _, rfl⟩

theorem State.Sound.touchWindow {s : State} {d : Depth} {k : Slack} (h : s.Sound d k) (i : Nat) :
    (s.touchWindow i).Sound d k := by
  unfold State.touchWindow
  split
  · next hw =>
    obtain ⟨start, stop, cap, hties⟩ := s.openWindow_ties i
    refine State.Sound.of_ties (h.modWindow (f := fun o => { o with window := .open start stop cap }) (fun _ => rfl)
      (fun x hx => ?_) (fun _ _ _ hx => ?_) fun _ => ?_) hties
    · rw [hw] at hx; cases hx
    · cases hx
    · exact .inr (.inl fun _ _ _ => rfl)
  · next start stop cap hw =>
    refine h.modWindow (fun o => ?_) (fun x hx => ?_) (fun o x ho hx => ?_) fun _ => .inr (.inl fun o ho hopen => ?_)
    · split <;> rfl
    · rw [hw] at hx; cases hx
    · rw [State.windowOf_of_domain? ho] at hw
      simp [hw] at hx
    · rw [State.windowOf_of_domain? ho] at hw
      simp [hw, Window.isOpen]
  · exact h

/-- A member event or child decision leaves an undecided domain's window OPEN. -/
theorem State.touchWindow_isOpen {s : State} {i : Nat} {o : Domain} (ho : s.domain? i = some o)
    (hw : ∀ x, s.windowOf i ≠ .decided x) : ((s.touchWindow i).windowOf i).isOpen = true := by
  have hwindow := State.windowOf_of_domain? ho
  unfold State.touchWindow
  split
  · obtain ⟨start, stop, cap, hties⟩ := s.openWindow_ties i
    rw [State.windowOf_of_ties hties, State.modDomain_windowOf, if_pos rfl, ho]
    rfl
  · next hw' =>
    rw [hw'] at hwindow
    rw [State.extendWindow, State.modDomain_windowOf, if_pos rfl, ho, Option.map_some, ← hwindow]
    rfl
  · next x hx => exact absurd hx (hw x)

theorem State.touchWindow_terms (s : State) (i : Nat) : (s.touchWindow i).terms = s.terms := by
  unfold State.touchWindow State.openWindow State.extendWindow
  split
  · split <;> rfl
  · rfl
  · rfl

theorem State.touchWindow_term? (s : State) (i a : Nat) : (s.touchWindow i).term? a = s.term? a := by
  rw [State.term?, State.touchWindow_terms]; rfl

/-! ## The nearest decided domain (R109) -/

theorem State.LinksTied.rankAt_parent {s : State} {k : Slack} (h : s.LinksTied k) {i p : Nat} {o : Domain}
    (ho : s.domain? i = some o) (hp : o.fields.parent = some p) : s.rankAt p = s.rankAt i + 1 := by
  obtain ⟨hlevel, hnot⟩ := h.parents i o p ho hp
  rw [State.rankAt_of_domain? ho, State.rankAt, hlevel]
  cases hl : o.fields.level with
  | splitter => rfl
  | segment => rfl
  | feeder => exact absurd hl hnot

theorem Window.fault?_eq_some {w : Window} {x : Nat} : w.fault? = some x ↔ w = .decided x := by
  cases w <;> simp [Window.fault?]

/-- The record that the search finds stands on a domain, no lower than where the search began. -/
theorem State.decidedFrom_some {s : State} {n i x : Nat} (h : s.decidedFrom n (some i) = some x) :
    ∃ j, s.windowOf j = .decided x ∧ ∀ {k : Slack}, s.LinksTied k → s.rankAt i ≤ s.rankAt j := by
  induction n generalizing i with
  | zero => cases h
  | succ n ih =>
    rw [State.decidedFrom] at h
    split at h
    · cases h
    · next o ho =>
      split at h
      · next y hy =>
        cases h
        exact ⟨i, (State.windowOf_of_domain? ho).trans (Window.fault?_eq_some.mp hy), fun _ => le_rfl⟩
      · cases hp : o.fields.parent with
        | none => rw [hp] at h; cases n <;> cases h
        | some p =>
          rw [hp] at h
          obtain ⟨j, hj, hrank⟩ := ih h
          refine ⟨j, hj, fun hl => ?_⟩
          have hup := hl.rankAt_parent ho hp
          have := hrank hl
          omega

/-- Where the search finds nothing, the domain it began from is not DECIDED. -/
theorem State.decidedFrom_none {s : State} {n i : Nat} (h : s.decidedFrom (n + 1) (some i) = none) (x : Nat) :
    s.windowOf i ≠ .decided x := by
  intro hw
  obtain ⟨o, ho, hwindow⟩ := State.domain?_of_windowOf hw (by simp)
  simp [State.decidedFrom, ho, hwindow, Window.fault?] at h

/-! ## A record opens (R131 to R133) -/

theorem State.core?_freeId {s : State} (hlen : s.faults.length < 32) : s.core? s.freeId = none :=
  State.core?_eq_none.mpr (State.freeId_free hlen)

/-- All that the asking for a record can come to: it is refused, or opened under the free id. -/
theorem State.openFault_cases (s : State) (kind : FaultKind) (i : Nat) :
    ((s.openFault kind i).2 = none ∧ (s.openFault kind i).1.ties = s.ties) ∨
    (s.faults.length < 32 ∧ (s.openFault kind i).2 = some s.freeId ∧ (s.openFault kind i).1.terms = s.terms ∧
      (s.openFault kind i).1.cores = s.cores ++ [(s.freeId, (newFault kind i s.now).core)] ∧
      ∀ j, (s.openFault kind i).1.windowOf j = if kind.onDomain = true ∧ j = i ∧ (s.domain? i).isSome = true
        then .decided s.freeId else s.windowOf j) := by
  unfold State.openFault
  split
  · exact .inl ⟨rfl, s.refuseFault_ties kind i⟩
  · next hlen =>
    refine .inr ⟨by omega, rfl, ?_⟩
    dsimp only
    split
    · next hon =>
      refine ⟨rfl, ?_, fun j => ?_⟩
      · simp [State.cores, State.freeId]
      · rw [State.modDomain_windowOf]
        change (if j = i then ((s.domain? i).map fun _ => Window.decided s.freeId).getD .quiet else s.windowOf j) = _
        by_cases hj : j = i
        · subst hj
          cases hi : s.domain? j with
          | none => simp [State.windowOf, hi]
          | some o => simp [hon]
        · simp [hj]
    · next hon =>
      refine ⟨rfl, ?_, fun j => ?_⟩
      · simp [State.cores, State.freeId]
      · rw [if_neg fun h => hon h.1]
        rfl

theorem State.Sound.openFault {s : State} {d : Depth} {k : Slack} (h : s.Sound d k) (kind : FaultKind) (i : Nat)
    (hfree : d.Links → kind.onDomain = true → (s.domain? i).isSome = true ∧ (∀ x, s.windowOf i ≠ .decided x) ∧
      ∀ a e, s.term? a = some e → e.held = true → e.prov.domain = i → i ∈ k.loose) :
    (s.openFault kind i).1.Sound d k := by
  obtain ⟨-, hties⟩ | ⟨hlen, -, hterms, hcores, hwindow⟩ := s.openFault_cases kind i
  · exact h.of_ties hties
  · have hkept := s.openFault_kept kind i
    have hnone := State.core?_freeId hlen
    have hterm : ∀ a, (s.openFault kind i).1.term? a = s.term? a := fun a => by
      rw [State.term?, hterms]; rfl
    have hcore : ∀ y, (s.openFault kind i).1.core? y =
        (s.core? y).or (if s.freeId = y then some (newFault kind i s.now).core else none) := fun y => by
      rw [State.core?, hcores, Table.get?_append_single]; rfl
    have hgo : ∀ y c, s.core? y = some c → (s.openFault kind i).1.core? y = some c := by
      intro y c hc
      rw [hcore, hc, Option.some_or]
    have hcome : ∀ y c, (s.openFault kind i).1.core? y = some c →
        s.core? y = some c ∨ y = s.freeId ∧ c = (newFault kind i s.now).core := by
      intro y c hc
      rw [hcore] at hc
      cases hy : s.core? y with
      | some c' =>
        rw [hy, Option.some_or] at hc
        exact .inl hc
      | none =>
        rw [hy, Option.none_or] at hc
        split at hc
        · next hid => cases hc; exact .inr ⟨hid.symm, rfl⟩
        · cases hc
    refine ⟨hterms ▸ h.terms, fun a e he => h.agrees a e (hterm a ▸ he), fun hd => ?faults, fun hd => ?links⟩
    case faults =>
      have hf := h.faults hd
      refine ⟨State.rising_domains_of_kept hkept hf.rising, hterms ▸ hf.room, ?_, fun y c hc hmem => ?_,
        fun a e y he hy => ?_, fun j y hw => ?_⟩
      · rw [hcores, Table.distinct, List.map_append]
        exact List.Nodup.append hf.ids (by simp) (by simpa using Table.get?_eq_none_iff.mp hnone)
      · rw [State.linkCount, hterms]
        obtain hc | ⟨rfl, rfl⟩ := hcome y c hc
        · exact hf.off y c hc hmem
        · refine (Table.countWhere_eq_zero.mpr fun a e he => ?_).symm
          have hunlinked : e.link ≠ some s.freeId := by
            intro hy
            obtain ⟨c, hc, -⟩ := hf.linked a e _ (Table.get?_of_mem h.terms he) hy
            rw [hnone] at hc
            cases hc
          simpa using hunlinked
      · obtain ⟨c, hc, hkind⟩ := hf.linked a e y (hterm a ▸ he) hy
        exact ⟨c, hgo y c hc, hkind⟩
      · rw [hwindow] at hw
        split at hw
        · next hnew =>
          obtain ⟨hon, rfl, -⟩ := hnew
          cases hw
          refine ⟨(newFault kind j s.now).core, ?_, hon, rfl⟩
          rw [hcore, hnone, if_pos rfl, Option.none_or]
        · obtain ⟨c, hc, hkind, hsubject⟩ := hf.decided j y hw
          exact ⟨c, hgo y c hc, hkind, hsubject⟩
    case links =>
      have hf := h.faults hd.faults
      have hl := h.links hd
      obtain ⟨hparents, hchannels⟩ := hl.refs_of_kept hkept
      have hcount : ∀ y, (s.openFault kind i).1.childCount k.leaving y = s.childCount k.leaving y := fun y => by
        rw [State.childCount, hcores, Table.countWhere_append_single]
        simp [State.childCount, FaultRecord.core, newFault]
      refine ⟨fun a e he => ?_, hparents, hchannels, fun y c hc hkind => ?_, fun y c hc hmem => ?_,
        fun y c p hc hmem hp => ?_, fun a e he hheld hmem => ?_⟩
      · rw [State.levelAt_of_kept hkept]
        exact hl.members a e (hterm a ▸ he)
      · rw [hwindow]
        obtain hc | ⟨rfl, rfl⟩ := hcome y c hc
        · have hw := hl.subject y c hc hkind
          rw [if_neg, hw]
          rintro ⟨hon, hi, -⟩
          exact (hfree hd hon).2.1 y (hi ▸ hw)
        · exact if_pos ⟨hkind, rfl, (hfree hd hkind).1⟩
      · rw [hcount]
        obtain hc | ⟨rfl, rfl⟩ := hcome y c hc
        · exact hl.count y c hc hmem
        · refine (Table.countWhere_eq_zero.mpr fun z g hz => ?_).symm
          have hgz : s.core? z = some g := Table.get?_of_mem hf.ids hz
          by_cases hzl : z ∈ k.leaving
          · simp [hzl]
          · have hne : g.parent ≠ some s.freeId := by
              intro hp
              obtain ⟨-, g', hg', -⟩ := hl.parent z g _ hgz hzl hp
              rw [hnone] at hg'
              cases hg'
            simp [hne]
      · obtain hc | ⟨rfl, rfl⟩ := hcome y c hc
        · obtain ⟨hpl, g, hg, hck, hgk, hlt⟩ := hl.parent y c p hc hmem hp
          refine ⟨hpl, g, hgo p g hg, hck, hgk, ?_⟩
          rw [State.rankAt_of_kept hkept, State.rankAt_of_kept hkept]
          exact hlt
        · cases hp
      · have he' := hterm a ▸ he
        rw [hwindow, if_neg]
        · exact hl.held a e he' hheld hmem
        · rintro ⟨hon, hi, -⟩
          exact hmem (hi ▸ (hfree hd hon).2.2 a e he' hheld hi)

/-- A record that has just opened. -/
theorem State.openFault_opened {s : State} {kind : FaultKind} {i x : Nat} (h : (s.openFault kind i).2 = some x) :
    x = s.freeId ∧ s.core? x = none ∧ (s.openFault kind i).1.core? x = some (newFault kind i s.now).core ∧
      (s.openFault kind i).1.terms = s.terms ∧
      ∀ j, (s.openFault kind i).1.windowOf j = if kind.onDomain = true ∧ j = i ∧ (s.domain? i).isSome = true
        then .decided x else s.windowOf j := by
  obtain ⟨hnone, -⟩ | ⟨hlen, hsome, hterms, hcores, hwindow⟩ := s.openFault_cases kind i
  · rw [hnone] at h; cases h
  · obtain rfl : s.freeId = x := Option.some.inj (hsome.symm.trans h)
    refine ⟨rfl, State.core?_freeId hlen, ?_, hterms, hwindow⟩
    have hnone : Table.get? s.cores s.freeId = none := State.core?_freeId hlen
    rw [State.core?, hcores, Table.get?_append_single, hnone]
    simp

/-! ## Links (R136, R140) -/

/-- A change of a record that keeps its kind, its subject and its off count is none of the entries' and windows'
business. -/
theorem State.FaultsTied.modFault {s : State} {k : Slack} (h : s.FaultsTied k) (x : Nat)
    {f : FaultRecord → FaultRecord} {g : FaultCore → FaultCore} (hf : ∀ r, (f r).core = g r.core)
    (hg : ∀ c, (g c).kind = c.kind ∧ (g c).subject = c.subject ∧ (g c).off = c.off) : (s.modFault x f).FaultsTied k := by
  have hkeep : ∀ y c, s.core? y = some c → ∃ c', (s.modFault x f).core? y = some c' ∧ c'.kind = c.kind ∧
      c'.subject = c.subject := by
    intro y c hc
    obtain ⟨hkind, hsubject, -⟩ := hg c
    rw [s.modFault_core? x y hf]
    split
    · rw [hc]; exact ⟨_, rfl, hkind, hsubject⟩
    · exact ⟨c, hc, rfl, rfl⟩
  refine ⟨h.rising, h.room, ?_, fun y c hc hmem => ?_, fun a e y he hy => ?_, fun i y hw => ?_⟩
  · rw [s.modFault_cores x hf]; exact Table.distinct_modify h.ids x g
  · rw [s.modFault_core? x y hf] at hc
    split at hc
    · obtain ⟨c₀, hc₀, rfl⟩ := Option.map_eq_some_iff.mp hc
      obtain ⟨-, -, hoff⟩ := hg c₀
      exact hoff.trans (h.off y c₀ hc₀ hmem)
    · exact h.off y c hc hmem
  · obtain ⟨c, hc, hkind⟩ := h.linked a e y he hy
    obtain ⟨c', hc', hck, -⟩ := hkeep y c hc
    exact ⟨c', hc', hck ▸ hkind⟩
  · obtain ⟨c, hc, hkind, hsubject⟩ := h.decided i y hw
    obtain ⟨c', hc', hck, hcs⟩ := hkeep y c hc
    exact ⟨c', hc', hck ▸ hkind, hcs ▸ hsubject⟩

/-- The core of a record that is linked below another, or unlinked (R136, R140). -/
def FaultCore.below (p : Option Nat) (c : FaultCore) : FaultCore := { c with parent := p }
/-- The core of a record that takes a child (R136). -/
def FaultCore.addChild (c : FaultCore) : FaultCore := { c with children := c.children + 1 }

theorem FaultRecord.core_linkedUnder (x : Nat) (r : FaultRecord) :
    (r.linkedUnder x).core = r.core.below (some x) := rfl
theorem FaultRecord.core_addChild (r : FaultRecord) :
    ({ r with children := r.children + 1 } : FaultRecord).core = r.core.addChild := rfl
theorem FaultRecord.core_unlinked (r : FaultRecord) :
    ({ r with parent := none } : FaultRecord).core = r.core.below none := rfl

theorem State.linkFault_eq (s : State) (c x : Nat) : s.linkFault c x =
    (s.modFault c fun r => r.linkedUnder x).modFault x fun r => { r with children := r.children + 1 } := rfl

/-- A change of one record's parent moves the child counts by that record alone. -/
theorem State.childCount_below {s : State} (hd : Table.distinct s.cores) {c : Nat} {f : FaultCore}
    (hc : s.core? c = some f) {r : FaultRecord → FaultRecord} {p : Option Nat}
    (hr : ∀ g : FaultRecord, (r g).core = g.core.below p) {l : List Nat} (hmem : c ∉ l) (y : Nat) :
    (s.modFault c r).childCount l y + (if f.parent = some y then 1 else 0) =
      s.childCount l y + (if p = some y then 1 else 0) := by
  have hcount := Table.countWhere_modify hd hc (FaultCore.below p) fun z g => decide (g.parent = some y) && decide (z ∉ l)
  simp only [hmem, not_false_eq_true, decide_true, Bool.and_true, decide_eq_true_eq] at hcount
  rw [State.childCount, s.modFault_cores c hr]
  exact hcount

/-- A top record is linked below an open record whose domain stands higher. -/
theorem State.Sound.linkFault {s : State} {d : Depth} {k : Slack} (h : s.Sound d k) {c x : Nat}
    (hlink : d.Links → c ∉ k.leaving ∧ x ∉ k.leaving ∧ ∃ f g, s.core? c = some f ∧ s.core? x = some g ∧
      f.parent = none ∧ f.kind.onDomain = true ∧ g.kind.onDomain = true ∧ s.rankAt f.subject < s.rankAt g.subject) :
    (s.linkFault c x).Sound d k := by
  rw [State.linkFault_eq]
  refine ⟨h.terms, h.agrees, fun hd => ?faults, fun hd => ?links⟩
  case faults =>
    exact ((h.faults hd).modFault c (FaultRecord.core_linkedUnder x) fun _ => ⟨rfl, rfl, rfl⟩).modFault x
      FaultRecord.core_addChild fun _ => ⟨rfl, rfl, rfl⟩
  case links =>
    have hf := h.faults hd.faults
    have hl := h.links hd
    obtain ⟨hcl, hxl, f, g, hcf, hxg, hnone, hfk, hgk, hlt⟩ := hlink hd
    have hcx : c ≠ x := by
      rintro rfl
      obtain rfl : f = g := Option.some.inj (hcf.symm.trans hxg)
      omega
    have hcore : ∀ y, ((s.modFault c fun r => r.linkedUnder x).modFault x fun r =>
        { r with children := r.children + 1 }).core? y = if y = x then some g.addChild
          else if y = c then some (f.below (some x)) else s.core? y := by
      intro y
      rw [State.modFault_core? _ x y FaultRecord.core_addChild, s.modFault_core? c y (FaultRecord.core_linkedUnder x)]
      by_cases hyx : y = x
      · subst hyx
        rw [if_neg hcx.symm, if_pos rfl, if_pos rfl, hxg, Option.map_some]
      · rw [if_neg hyx, if_neg hyx]
        by_cases hyc : y = c
        · subst hyc; rw [if_pos rfl, if_pos rfl, hcf, Option.map_some]
        · rw [if_neg hyc, if_neg hyc]
    have hids := (hf.modFault c (FaultRecord.core_linkedUnder x) fun _ => ⟨rfl, rfl, rfl⟩).ids
    refine ⟨hl.members, hl.parents, hl.channels, fun y r hr hkind => ?_, fun y r hr hmem => ?_,
      fun y r p hr hmem hp => ?_, hl.held⟩
    · rw [hcore] at hr
      split at hr
      · next hy => cases hr; exact hl.subject y g (hy ▸ hxg) hkind
      · split at hr
        · next hy => cases hr; exact hl.subject y f (hy ▸ hcf) hkind
        · exact hl.subject y r hr hkind
    · rw [State.modFault_childCount hids x FaultRecord.core_addChild fun _ => rfl]
      have hcount := State.childCount_below hf.ids hcf (FaultRecord.core_linkedUnder x) hcl y
      rw [hnone, if_neg (by simp)] at hcount
      rw [hcore] at hr
      split at hr
      · next hy =>
        subst hy
        cases hr
        have := hl.count y g hxg hmem
        rw [if_pos rfl] at hcount
        change g.children + 1 = _
        omega
      · next hy =>
        rw [if_neg (by simpa using fun h => hy h.symm)] at hcount
        split at hr
        · next hyc =>
          subst hyc
          cases hr
          have := hl.count y f hcf hmem
          change f.children = _
          omega
        · have := hl.count y r hr hmem
          omega
    · have hstay : ∀ p r, s.core? p = some r → ∃ r', ((s.modFault c fun r => r.linkedUnder x).modFault x fun r =>
          { r with children := r.children + 1 }).core? p = some r' ∧ r'.kind = r.kind ∧ r'.subject = r.subject := by
        intro p r hr
        rw [hcore]
        split
        · next hy =>
          obtain rfl : g = r := Option.some.inj (hxg.symm.trans (hy ▸ hr))
          exact ⟨_, rfl, rfl, rfl⟩
        · split
          · next hy =>
            obtain rfl : f = r := Option.some.inj (hcf.symm.trans (hy ▸ hr))
            exact ⟨_, rfl, rfl, rfl⟩
          · exact ⟨r, hr, rfl, rfl⟩
      have hold : ∀ r₀, s.core? y = some r₀ → r₀.parent = some p → r₀.kind = r.kind → r₀.subject = r.subject →
          p ∉ k.leaving ∧ ∃ r', ((s.modFault c fun r => r.linkedUnder x).modFault x fun r =>
            { r with children := r.children + 1 }).core? p = some r' ∧ r.kind.onDomain = true ∧
            r'.kind.onDomain = true ∧ s.rankAt r.subject < s.rankAt r'.subject := by
        intro r₀ hr₀ hp₀ hkind hsubject
        obtain ⟨hpl, q, hq, hrk, hqk, hlt'⟩ := hl.parent y r₀ p hr₀ hmem hp₀
        obtain ⟨q', hq', hqk', hqs'⟩ := hstay p q hq
        exact ⟨hpl, q', hq', hkind ▸ hrk, hqk' ▸ hqk, hsubject ▸ hqs' ▸ hlt'⟩
      rw [hcore] at hr
      split at hr
      · next hy =>
        cases hr
        exact hold g (hy ▸ hxg) hp rfl rfl
      · split at hr
        · next hy =>
          cases hr
          obtain rfl : x = p := Option.some.inj hp
          obtain ⟨q', hq', hqk', hqs'⟩ := hstay x g hxg
          exact ⟨hxl, q', hq', hfk, hqk' ▸ hgk, hqs' ▸ hlt⟩
        · exact hold r hr hp rfl rfl

/-- A child of a record whose counts stand open becomes a top record. -/
theorem State.Sound.unlinkFault {s : State} {d : Depth} {k : Slack} (h : s.Sound d k) {c : Nat}
    (hparent : d.Links → c ∉ k.leaving ∧ ∀ f p, s.core? c = some f → f.parent = some p → p ∈ k.stale) :
    (s.modFault c fun f => { f with parent := none }).Sound d k := by
  refine ⟨h.terms, h.agrees, fun hd => ?faults, fun hd => ?links⟩
  case faults =>
    exact (h.faults hd).modFault c FaultRecord.core_unlinked fun _ => ⟨rfl, rfl, rfl⟩
  case links =>
    have hf := h.faults hd.faults
    have hl := h.links hd
    obtain ⟨hcl, hstale⟩ := hparent hd
    have hback : ∀ y r, (s.modFault c fun f => { f with parent := none }).core? y = some r → ∃ r₀, s.core? y = some r₀ ∧
        r.kind = r₀.kind ∧ r.subject = r₀.subject ∧ r.children = r₀.children ∧ (r.parent = r₀.parent ∨ r.parent = none) := by
      intro y r hr
      rw [s.modFault_core? c y FaultRecord.core_unlinked] at hr
      split at hr
      · obtain ⟨r₀, hr₀, rfl⟩ := Option.map_eq_some_iff.mp hr
        exact ⟨r₀, hr₀, rfl, rfl, rfl, .inr rfl⟩
      · exact ⟨r, hr, rfl, rfl, rfl, .inl rfl⟩
    have hstay : ∀ y r, s.core? y = some r → ∃ r', (s.modFault c fun f => { f with parent := none }).core? y = some r' ∧
        r'.kind = r.kind ∧ r'.subject = r.subject := by
      intro y r hr
      rw [s.modFault_core? c y FaultRecord.core_unlinked]
      split
      · rw [hr]; exact ⟨_, rfl, rfl, rfl⟩
      · exact ⟨r, hr, rfl, rfl⟩
    refine ⟨hl.members, hl.parents, hl.channels, fun y r hr hkind => ?_, fun y r hr hmem => ?_,
      fun y r p hr hmem hp => ?_, hl.held⟩
    · obtain ⟨r₀, hr₀, hk, hs, -, -⟩ := hback y r hr
      exact hs ▸ hl.subject y r₀ hr₀ (hk ▸ hkind)
    · obtain ⟨r₀, hr₀, -, -, hch, -⟩ := hback y r hr
      rw [hch, hl.count y r₀ hr₀ hmem]
      cases hc : s.core? c with
      | none =>
        have hnone : Table.get? s.faults c = none := State.core?_eq_none.mp hc
        rw [State.modFault, Table.modify_of_get?_none hnone]
      | some f =>
        have hcount := State.childCount_below hf.ids hc FaultRecord.core_unlinked hcl y
        rw [if_neg fun hy => hmem (hstale f y hc hy), if_neg (by simp)] at hcount
        omega
    · obtain ⟨r₀, hr₀, hk, hs, -, hpar⟩ := hback y r hr
      rcases hpar with hpar | hnone
      · obtain ⟨hpl, q, hq, hrk, hqk, hlt⟩ := hl.parent y r₀ p hr₀ hmem (hpar ▸ hp)
        obtain ⟨q', hq', hqk', hqs'⟩ := hstay p q hq
        exact ⟨hpl, q', hq', hk ▸ hrk, hqk' ▸ hqk, hs ▸ hqs' ▸ hlt⟩
      · rw [hnone] at hp; cases hp

end Sys2Proof.Machine

namespace Sys2Proof.Machine

/-! ## Progress and the clearing rule (R137, R139) -/

theorem State.offerHeld_terms (s : State) (x : Nat) : (s.offerHeld x).terms = s.terms :=
  State.terms_of_ties (s.offerHeld_ties x)

theorem State.offerClosed_terms (s : State) (x : Nat) (r : CloseReason) (a b : Nat) :
    (s.offerClosed x r a b).terms = s.terms := State.terms_of_ties (s.offerClosed_ties x r a b)

theorem progressFault_terms (n x : Nat) (s : State) : (progressFault n x s).terms = s.terms := by
  induction n generalizing x s with
  | zero => rfl
  | succ n ih =>
    rw [progressFault]
    split
    · rfl
    · split
      · rfl
      · dsimp only
        split
        · split
          · rw [State.removeFault_terms, ih]
            exact State.offerHeld_terms ..
          · rw [State.removeFault_terms, State.offerClosed_terms, State.offerHeld_terms]
            rfl
        · rfl

theorem State.dropChild_faultRank (s : State) (p y : Nat) : (s.dropChild p).faultRank y = s.faultRank y := by
  unfold State.faultRank
  rw [State.dropChild_core?]
  split
  · cases s.core? y <;> rfl
  · rfl

/-- The core of a record that enters CLEARING or makes progress there is the same (R137). -/
theorem State.progressed_ties (s : State) (x : Nat) (t : State) : (s.modFault x t.progressed).ties = s.ties :=
  s.modFault_ties x fun _ => rfl

/-- The climb of the clearing rule keeps the agreement. It starts above all that stands open, so it never meets it. -/
theorem State.Sound.progressFault {d : Depth} (n : Nat) {x : Nat} {s : State} {k : Slack} (h : s.Sound d k)
    (hlinks : d.Faults → ∀ z ∈ k.stale, s.linkCount z = 0)
    (hrank : d.Links → ∀ z, z ∈ k.stale ∨ z ∈ k.leaving → s.faultRank z < s.faultRank x) :
    (progressFault n x s).Sound d k := by
  induction n generalizing x s k with
  | zero => exact h
  | succ n ih =>
    rw [Machine.progressFault]
    cases hx : s.fault? x with
    | none => exact h
    | some f =>
      dsimp only
      split
      · exact h
      · have hmarked : (s.modFault x s.progressed).ties = s.ties := s.progressed_ties x s
        change State.Sound d k (if f.off = 0 ∧ f.children = 0 then
          match f.parent with
          | some p => (Machine.progressFault n p (((s.modFault x s.progressed).offerHeld x).dropChild p)).removeFault x
          | none => (((s.modFault x s.progressed).offerHeld x).offerClosed x .cleared 0 0).removeFault x
          else s.modFault x s.progressed)
        split
        · next hdone =>
          obtain ⟨hoff, hchildren⟩ := hdone
          have hcore := State.core?_of_fault? hx
          have hties : ((s.modFault x s.progressed).offerHeld x).ties = s.ties :=
            (State.offerHeld_ties ..).trans hmarked
          have hcore' := (State.core?_of_ties hties x).trans hcore
          have hzero : d.Faults → s.linkCount x = 0 := fun hd => by
            by_cases hmem : x ∈ k.stale
            · exact hlinks hd x hmem
            · rw [← (h.faults hd).off x _ hcore hmem, FaultRecord.core_off, hoff]
          have hout : d.Links → x ∉ k.leaving ∧ s.childCount k.leaving x = 0 := fun hd => by
            refine ⟨fun hmem => absurd (hrank hd x (.inr hmem)) (lt_irrefl _), ?_⟩
            have hstale : x ∉ k.stale := fun hmem => absurd (hrank hd x (.inl hmem)) (lt_irrefl _)
            rw [← (h.links hd).count x _ hcore hstale, FaultRecord.core_children, hchildren]
          have hcount : d.Links → ((s.modFault x s.progressed).offerHeld x).childCount k.leaving x = 0 := fun hd =>
            (State.childCount_of_ties hties ..).trans (hout hd).2
          split
          · next p hp =>
            have hleave := (h.of_ties hties).leaveParent fun hd => ⟨(hout hd).1, hcount hd, _, hcore', hp⟩
            have hsame : ∀ z, (((s.modFault x s.progressed).offerHeld x).dropChild p).faultRank z = s.faultRank z :=
              fun z => (State.dropChild_faultRank ..).trans (State.faultRank_of_ties hties z)
            have hterms : (((s.modFault x s.progressed).offerHeld x).dropChild p).terms = s.terms :=
              (State.terms_of_ties hties :)
            refine State.Sound.removeFault (ih hleave (fun hd z hz => ?_) fun hd z hz => ?_) fun hd => ?_
            · rw [State.linkCount, hterms]
              rcases List.mem_cons.mp hz with rfl | hz
              · exact hzero hd
              · exact hlinks hd z hz
            · rw [hsame, hsame]
              obtain ⟨-, g, hg, -, -, hlt⟩ := (h.links hd).parent x _ p hcore (hout hd).1 hp
              have hup : s.faultRank x < s.faultRank p := by simpa [State.faultRank, hcore, hg] using hlt
              have hcase : z = x ∨ z ∈ k.stale ∨ z ∈ k.leaving := by
                simp only [Slack.leave_stale, Slack.leave_leaving, List.mem_cons] at hz
                tauto
              rcases hcase with rfl | hz
              · exact hup
              · exact (hrank hd z hz).trans hup
            · rw [State.linkCount, progressFault_terms, hterms]
              exact hzero hd
          · next hp =>
            have hleave := (h.of_ties hties).leaveTop fun hd => ⟨(hout hd).1, hcount hd, _, hcore', hp⟩
            refine State.Sound.removeFault (hleave.of_ties (State.offerClosed_ties ..)) fun hd => ?_
            rw [State.linkCount, State.offerClosed_terms, State.terms_of_ties hties]
            exact hzero hd
        · exact h.of_ties hmarked

theorem State.Sound.progress {s : State} {d : Depth} (h : s.Sound d .tight) (x : Nat) : (s.progress x).Sound d .tight :=
  h.progressFault _ (fun _ z hz => by simp at hz) fun _ z hz => by simp at hz

theorem State.Sound.causeGone {s : State} {d : Depth} (h : s.Sound d .tight) (x : Nat) :
    (s.causeGone x).Sound d .tight := by
  unfold State.causeGone
  split
  · exact h
  · split
    · exact h.progress x
    · exact h

end Sys2Proof.Machine

namespace Sys2Proof.Machine

/-! ## Runs over keys -/

/-- What every change of a run keeps, for the keys that it runs over, the run keeps. -/
theorem overKeys_keeps_mem {σ : Type} {p : σ → Prop} {f : Nat → σ → σ} {keys : List Nat}
    (step : ∀ k ∈ keys, ∀ s, p s → p (f k s)) (s : σ) (h : p s) : p (overKeys keys f s) := by
  induction keys generalizing s with
  | nil => exact h
  | cons k keys ih => exact ih (fun j hj => step j (by simp [hj])) _ (step k (by simp) s h)

/-- A run of changes, each at its own key and changing nothing a second time, changes the records that it names. -/
theorem overKeys_get {α : Type} {f : Nat → State → State} {get : State → Nat → Option α} {g : α → α}
    (hf : ∀ k s b, get (f k s) b = if b = k then (get s b).map g else get s b) (hg : ∀ v, g (g v) = g v)
    (keys : List Nat) (s : State) (b : Nat) :
    get (overKeys keys f s) b = if b ∈ keys then (get s b).map g else get s b := by
  induction keys generalizing s with
  | nil => rfl
  | cons k keys ih =>
    change get (overKeys keys f (f k s)) b = _
    rw [ih, hf]
    by_cases hb : b = k <;> by_cases hm : b ∈ keys <;> simp [hb, hm, Function.comp_def, hg]

@[simp] theorem mem_sortIds (a : Nat) (l : List Nat) : a ∈ sortIds l ↔ a ∈ l := by
  induction l with
  | nil => rfl
  | cons b l ih =>
    change a ∈ insertAddr b (sortIds l) ↔ _
    rw [mem_insertAddr, ih, List.mem_cons]

/-! ## Unfolds (R96) -/

/-- An entry unfolded at a clearing limit: REPORTED afterwards unless it is MASKED (R96). -/
def Terminal.released (e : Terminal) : Terminal := { e with link := none, reported := e.reported || !e.prov.masked }

/-- An entry unfolded by FAULT_CLEAR: REPORTED afterwards (R96). -/
def Terminal.cleared (e : Terminal) : Terminal := { e with link := none, reported := true }

theorem Terminal.released_released (e : Terminal) : e.released.released = e.released := by
  unfold Terminal.released
  cases e.reported <;> cases e.prov.masked <;> rfl

theorem State.offerTerminalOff_term? (s : State) (a b : Nat) (r : OffReason) : (s.offerTerminalOff a r).term? b =
    if b = a then (s.term? b).map fun e => if e.prov.masked || e.folded then e else { e with reported := true }
      else s.term? b := by
  unfold State.offerTerminalOff
  cases ha : s.term? a with
  | none =>
    by_cases hb : b = a
    · simp [hb, ha]
    · simp [hb]
  | some e =>
    dsimp only
    split
    · next hm =>
      by_cases hb : b = a
      · rw [if_pos hb, hb, ha, Option.map_some, if_pos hm]
      · rw [if_neg hb]
    · next hm =>
      rw [State.offer_term?, State.modTerm_term?]
      by_cases hb : b = a
      · rw [if_pos hb, if_pos hb, hb, ha, Option.map_some, Option.map_some, if_neg hm]
      · rw [if_neg hb, if_neg hb]

theorem State.unfoldAtLimit_term? (s : State) (a b : Nat) :
    (s.unfoldAtLimit a).term? b = if b = a then (s.term? b).map Terminal.released else s.term? b := by
  have hunlinked : ∀ c, (s.modTerm a fun t => { t with link := none }).term? c =
      if c = a then (s.term? c).map fun t => { t with link := none } else s.term? c := fun c =>
    s.modTerm_term? a c _
  unfold State.unfoldAtLimit
  dsimp only
  split
  · next hnone =>
    rw [hunlinked] at hnone ⊢
    rw [if_pos rfl, Option.map_eq_none_iff] at hnone
    by_cases hb : b = a
    · simp [hb, hnone]
    · simp [hb]
  · next e he =>
    rw [hunlinked, if_pos rfl] at he
    obtain ⟨e₀, he₀, rfl⟩ := Option.map_eq_some_iff.mp he
    split
    · next hrep =>
      rw [hunlinked]
      by_cases hb : b = a
      · have hrep : e₀.reported = true := hrep
        simp [hb, he₀, Terminal.released, hrep]
      · simp [hb]
    · next hrep =>
      rw [State.offerTerminalOff_term?, hunlinked]
      by_cases hb : b = a
      · have hrep : e₀.reported = false := by simpa using hrep
        cases hm : e₀.prov.masked <;> simp [hb, he₀, Terminal.released, Terminal.folded, hrep, hm]
      · simp [hb]

theorem State.unfoldCleared_term? (s : State) (a b : Nat) :
    (s.unfoldCleared a).term? b = if b = a then (s.term? b).map Terminal.cleared else s.term? b :=
  s.modTerm_term? a b _

theorem State.offerTerminalOff_domains (s : State) (a : Nat) (r : OffReason) :
    (s.offerTerminalOff a r).domains = s.domains := by
  unfold State.offerTerminalOff
  split
  · rfl
  · split <;> rfl

theorem State.offerTerminalOff_faults (s : State) (a : Nat) (r : OffReason) :
    (s.offerTerminalOff a r).faults = s.faults := by
  unfold State.offerTerminalOff
  split
  · rfl
  · split <;> rfl

theorem State.unfoldAtLimit_domains (s : State) (a : Nat) : (s.unfoldAtLimit a).domains = s.domains := by
  unfold State.unfoldAtLimit
  dsimp only
  split
  · rfl
  · split
    · rfl
    · exact State.offerTerminalOff_domains ..

theorem State.unfoldAtLimit_faults (s : State) (a : Nat) : (s.unfoldAtLimit a).faults = s.faults := by
  unfold State.unfoldAtLimit
  dsimp only
  split
  · rfl
  · split
    · rfl
    · exact State.offerTerminalOff_faults ..

theorem State.mem_linkedTerms {s : State} (hd : Table.distinct s.terms) {a x : Nat} {e : Terminal}
    (ha : s.term? a = some e) : a ∈ s.linkedTerms x ↔ e.link = some x := by
  simp only [State.linkedTerms, Table.mem_keysWhere, decide_eq_true_eq]
  constructor
  · rintro ⟨v, hv, hlink⟩
    obtain rfl : v = e := Option.some.inj ((Table.get?_of_mem hd hv).symm.trans ha)
    exact hlink
  · exact fun hlink => ⟨e, Table.mem_of_get? ha, hlink⟩

theorem State.linkCount_eq_zero {s : State} (hd : Table.distinct s.terms) {x : Nat} :
    s.linkCount x = 0 ↔ ∀ a e, s.term? a = some e → e.link ≠ some x := by
  simp only [State.linkCount, Table.countWhere_eq_zero, decide_eq_false_iff_not]
  exact ⟨fun h a e he => h a e (Table.mem_of_get? he), fun h a e he => h a e (Table.get?_of_mem hd he)⟩

theorem Terminal.Agrees.unlinked {e u : Terminal} (h : e.Agrees) (hlink : u.link = none)
    (hrest : (u.state, u.lit, u.prior, u.gaspHold, u.holdDown, u.offSince) =
      (e.state, e.lit, e.prior, e.gaspHold, e.holdDown, e.offSince)) : u.Agrees := by
  obtain ⟨hgasp, hhold, hsince, hprior, hrestoring, hlit, -⟩ := h
  simp only [Prod.mk.injEq] at hrest
  obtain ⟨hst, hl, hp, hg, hh, ho⟩ := hrest
  exact ⟨hst ▸ hg ▸ hgasp, hst ▸ hh ▸ hhold, hst ▸ ho ▸ hsince, hst ▸ hp ▸ hprior, hst ▸ hp ▸ hrestoring,
    hst ▸ hl ▸ hlit, fun hfolded => by simp [Terminal.folded, hlink] at hfolded⟩

/-- A change of REPORTED alone. -/
theorem Terminal.keeps_reported (e : Terminal) (v : Bool) : e.Keeps { e with reported := v } :=
  ⟨fun ⟨hgasp, hhold, hsince, hprior, hrestoring, hlit, hfolded⟩ =>
    ⟨hgasp, hhold, hsince, hprior, hrestoring, hlit, hfolded⟩, rfl, rfl, id⟩

theorem State.Sound.offerTerminalOff {s : State} {d : Depth} {k : Slack} (h : s.Sound d k) (a : Nat) (r : OffReason) :
    (s.offerTerminalOff a r).Sound d k := by
  unfold State.offerTerminalOff
  split
  · exact h
  · split
    · exact h
    · exact (h.modTerm a fun e _ => e.keeps_reported true).of_ties (State.offer_ties ..)

/-- An entry is unlinked from records whose counts stand open. -/
theorem State.Sound.unlinkTerm {s : State} {d : Depth} {k : Slack} (h : s.Sound d k) (a : Nat)
    {g : Terminal → Terminal} (hg : ∀ e, (g e).link = none ∧ (g e).prov = e.prov ∧
      ((g e).state, (g e).lit, (g e).prior, (g e).gaspHold, (g e).holdDown, (g e).offSince) =
        (e.state, e.lit, e.prior, e.gaspHold, e.holdDown, e.offSince))
    (hstale : ∀ e x, s.term? a = some e → e.link = some x → x ∈ k.stale) : (s.modTerm a g).Sound d k := by
  cases ha : s.term? a with
  | none => rwa [State.modTerm_of_none ha]
  | some e =>
    obtain ⟨hlink, hprov, hrest⟩ := hg e
    have hstate : (g e).state = e.state := congrArg Prod.fst hrest
    refine h.changeTerm ha ((h.agrees a e ha).unlinked hlink hrest) (by rw [hprov]) (fun _ hheld => .inl ?_)
      fun _ => .inr ⟨fun x => hstale e x ha, fun x hx => ?_⟩
    · simpa [Terminal.held, hstate] using hheld
    · rw [hlink] at hx; cases hx

theorem State.Sound.unfoldAtLimit {s : State} {d : Depth} {k : Slack} (h : s.Sound d k) (a : Nat)
    (hstale : ∀ e x, s.term? a = some e → e.link = some x → x ∈ k.stale) : (s.unfoldAtLimit a).Sound d k := by
  have hunlinked := h.unlinkTerm a (g := fun t => { t with link := none }) (fun _ => ⟨rfl, rfl, rfl⟩) hstale
  unfold State.unfoldAtLimit
  dsimp only
  split
  · exact hunlinked
  · split
    · exact hunlinked
    · exact hunlinked.offerTerminalOff a .released

theorem State.Sound.unfoldCleared {s : State} {d : Depth} {k : Slack} (h : s.Sound d k) (a : Nat)
    (hstale : ∀ e x, s.term? a = some e → e.link = some x → x ∈ k.stale) : (s.unfoldCleared a).Sound d k :=
  h.unlinkTerm a (fun _ => ⟨rfl, rfl, rfl⟩) hstale

section UnfoldRuns

variable {s : State} {d : Depth} {f : Nat → State → State} {g : Terminal → Terminal}

/-- A run of unfolds over all the entries of a record whose counts stand open leaves none linked to it. -/
theorem State.Sound.unfoldRun {x : Nat} (h : s.Sound d (Slack.tight.stain x))
    (hsound : ∀ a (t : State), t.Sound d (Slack.tight.stain x) →
      (∀ e y, t.term? a = some e → e.link = some y → y ∈ (Slack.tight.stain x).stale) →
      (f a t).Sound d (Slack.tight.stain x))
    (hterm : ∀ a (t : State) b, (f a t).term? b = if b = a then (t.term? b).map g else t.term? b)
    (hg : ∀ e, (g e).link = none) :
    (overKeys (s.linkedTerms x) f s).Sound d (Slack.tight.stain x) ∧
      (overKeys (s.linkedTerms x) f s).linkCount x = 0 := by
  have hrun : (overKeys (s.linkedTerms x) f s).Sound d (Slack.tight.stain x) ∧
      ∀ a ∈ s.linkedTerms x, ∀ e y, (overKeys (s.linkedTerms x) f s).term? a = some e → e.link = some y → y = x := by
    refine overKeys_keeps_mem (p := fun t : State => t.Sound d (Slack.tight.stain x) ∧
      ∀ a ∈ s.linkedTerms x, ∀ e y, t.term? a = some e → e.link = some y → y = x) (fun a ha t ht => ⟨?_, ?_⟩) s ⟨h, ?_⟩
    · obtain ⟨hs, hl⟩ := ht
      exact hsound a t hs fun e y he hy => by simp [hl a ha e y he hy]
    · obtain ⟨-, hl⟩ := ht
      intro b hb e y he hy
      rw [hterm] at he
      split at he
      · obtain ⟨e₀, -, rfl⟩ := Option.map_eq_some_iff.mp he
        rw [hg] at hy
        cases hy
      · exact hl b hb e y he hy
    · intro a ha e y he hy
      exact (Option.some.inj (((State.mem_linkedTerms h.terms he).mp ha).symm.trans hy)).symm
  refine ⟨hrun.1, (State.linkCount_eq_zero hrun.1.terms).mpr fun b e he hx => ?_⟩
  have hget : ∀ (keys : List Nat) (t : State), (overKeys keys f t).term? b = some e → e.link = some x →
      b ∉ keys ∧ t.term? b = some e := by
    intro keys
    induction keys with
    | nil => exact fun t ht _ => ⟨by simp, ht⟩
    | cons a keys ih =>
      intro t ht hlink
      obtain ⟨hb, ht'⟩ := ih (f a t) ht hlink
      rw [hterm] at ht'
      split at ht'
      · obtain ⟨e₀, -, rfl⟩ := Option.map_eq_some_iff.mp ht'
        rw [hg] at hlink
        cases hlink
      · next hne => exact ⟨by simp [hne, hb], ht'⟩
  obtain ⟨hb, he'⟩ := hget _ _ he hx
  exact hb ((State.mem_linkedTerms h.terms he').mpr hx)

end UnfoldRuns

/-! ## The ways out (R131, R140, R144) -/

section WaysOut

variable {s : State} {d : Depth} {x : Nat}

/-- A record that is gone stands open no more. -/
theorem State.Sound.unstain_gone {k : Slack} (h : s.Sound d (k.stain x)) (hnone : s.core? x = none) : s.Sound d k :=
  h.unstain (fun _ f hf => by rw [hnone] at hf; cases hf) fun _ f hf => by rw [hnone] at hf; cases hf

theorem State.Sound.removeStained {k : Slack} (h : s.Sound d ((k.stain x).leave x))
    (hlinks : d.Faults → s.linkCount x = 0) : (s.removeFault x).Sound d k :=
  (State.Sound.removeFault h hlinks).unstain_gone (by rw [State.removeFault_core?, if_pos rfl])

/-- A top record without entries and children goes. -/
theorem State.Sound.closeTop (h : s.Sound d (Slack.tight.stain x)) (hlinks : d.Faults → s.linkCount x = 0)
    (hout : d.Links → s.childCount [] x = 0 ∧ ∃ f, s.core? x = some f ∧ f.parent = none) :
    (s.removeFault x).Sound d .tight :=
  (h.leaveTop fun hd => ⟨by simp, hout hd⟩).removeStained hlinks

/-- A linked record without entries and children goes, after its parent has made progress. -/
theorem State.Sound.closeUnder {p : Nat} (h : s.Sound d (Slack.tight.stain x)) (hlinks : d.Faults → s.linkCount x = 0)
    (hout : d.Links → s.childCount [] x = 0 ∧ ∃ f, s.core? x = some f ∧ f.parent = some p) :
    (((s.dropChild p).progress p).removeFault x).Sound d .tight := by
  have hleave := h.leaveParent fun hd => ⟨by simp, hout hd⟩
  refine State.Sound.removeStained (hleave.progressFault _ (fun hd z hz => ?_) fun hd z hz => ?_) fun hd => ?_
  · obtain rfl : z = x := by simpa using hz
    exact hlinks hd
  · obtain rfl : z = x := by simpa using hz
    obtain ⟨-, f, hf, hp⟩ := hout hd
    obtain ⟨-, g, hg, -, -, hlt⟩ := (h.links hd).parent z f p hf (by simp) hp
    rw [State.dropChild_faultRank, State.dropChild_faultRank]
    simpa [State.faultRank, hf, hg] using hlt
  · rw [State.linkCount, State.progress, progressFault_terms]
    exact hlinks hd

end WaysOut

/-! ## The clearing limit (R140) -/

/-- A child record unlinked at its parent's clearing limit: announced, with its reminder started when it is due; `ms`
is the reminder setting in force (R140 step 2). -/
def FaultRecord.unlinked (minutes : Nat) (g : FaultRecord) : FaultRecord :=
  { g with
    parent := none
    announced := true
    held := g.held && g.announced
    reminder := if g.acked = false ∧ minutes ≠ 0 then some (minutes * 60000) else g.reminder }

theorem FaultRecord.unlinked_unlinked (m : Nat) (g : FaultRecord) : (g.unlinked m).unlinked m = g.unlinked m := by
  unfold FaultRecord.unlinked
  dsimp only
  split <;> simp

theorem State.modFault_fault? (s : State) (x y : Nat) (f : FaultRecord → FaultRecord) :
    (s.modFault x f).fault? y = if y = x then (s.fault? y).map f else s.fault? y := Table.get?_modify ..

/-- A record whose FAULT_OPENED has just been offered; `minutes` is the reminder setting in force (R133, R142). -/
def FaultRecord.opened (minutes : Nat) (f : FaultRecord) : FaultRecord :=
  { f with
    announced := true
    held := false
    reminder := if f.acked = false ∧ f.parent = none ∧ minutes ≠ 0 then some (minutes * 60000) else f.reminder }

/-- A record whose reminder timer has been started where it is due (R142). -/
def FaultRecord.reminded (minutes : Nat) (f : FaultRecord) : FaultRecord :=
  if f.announced && !f.acked && f.parent.isNone && minutes != 0 then { f with reminder := some (minutes * 60000) } else f

theorem FaultRecord.reminded_announced (m : Nat) (f : FaultRecord) :
    ({ f with announced := true, held := false } : FaultRecord).reminded m = f.opened m := by
  unfold FaultRecord.reminded FaultRecord.opened
  cases f.acked <;> cases f.parent <;> by_cases hm : m = 0 <;> simp [hm]

theorem FaultRecord.reminded_top (m : Nat) {f : FaultRecord} (h : f.announced = true) :
    ({ f with parent := none } : FaultRecord).reminded m = f.unlinked m := by
  unfold FaultRecord.reminded FaultRecord.unlinked
  cases f.acked <;> by_cases hm : m = 0 <;> simp [hm, h]

theorem FaultRecord.opened_top (m : Nat) {f : FaultRecord} (h : f.announced = false) :
    ({ f with parent := none } : FaultRecord).opened m = f.unlinked m := by
  unfold FaultRecord.opened FaultRecord.unlinked
  simp [h]

theorem State.startReminder_eq (s : State) (x : Nat) :
    s.startReminder x = s.modFault x (FaultRecord.reminded s.settings.reminder.toNat) := rfl

theorem State.offerOpened_fault?_self {s : State} {x : Nat} (w : Bool) {f : FaultRecord} (h : s.fault? x = some f) :
    (s.offerOpened x w).fault? x = some (f.opened s.settings.reminder.toNat) := by
  rw [State.offerOpened, h]
  dsimp only
  rw [State.offer_fault?, State.startReminder_eq, State.modFault_fault?, if_pos rfl, State.modFault_fault?, if_pos rfl, h,
    Option.map_some, Option.map_some, State.modFault_settings, FaultRecord.reminded_announced]

theorem State.unlinkChild_fault? (s : State) (c y : Nat) : (s.unlinkChild c).fault? y =
    if y = c then (s.fault? y).map (FaultRecord.unlinked s.settings.reminder.toNat) else s.fault? y := by
  have htop : ∀ z, (s.modFault c fun f => { f with parent := none }).fault? z =
      if z = c then (s.fault? z).map fun f => { f with parent := none } else s.fault? z := fun z =>
    s.modFault_fault? c z _
  unfold State.unlinkChild
  dsimp only
  split
  · next hnone =>
    rw [htop] at hnone ⊢
    rw [if_pos rfl, Option.map_eq_none_iff] at hnone
    by_cases hy : y = c
    · simp [hy, hnone]
    · simp [hy]
  · next f hf =>
    have hf' := hf
    rw [htop, if_pos rfl] at hf'
    obtain ⟨f₀, hf₀, rfl⟩ := Option.map_eq_some_iff.mp hf'
    by_cases hy : y = c
    · subst hy
      rw [if_pos rfl, hf₀, Option.map_some]
      split
      · next hann =>
        have hann : f₀.announced = true := hann
        rw [State.startReminder_eq, State.modFault_fault?, if_pos rfl, hf, Option.map_some, State.modFault_settings,
          FaultRecord.reminded_top _ hann]
      · next hann =>
        have hann : f₀.announced = false := by simpa using hann
        rw [State.offerOpened_fault?_self false hf, State.modFault_settings, FaultRecord.opened_top _ hann]
    · rw [if_neg hy]
      split
      · rw [State.startReminder_eq, State.modFault_fault?, if_neg hy, htop, if_neg hy]
      · rw [State.offerOpened_fault?_ne _ _ hy, htop, if_neg hy]

theorem State.unlinkChild_ties (s : State) (c : Nat) :
    (s.unlinkChild c).ties = (s.modFault c fun f => { f with parent := none }).ties := by
  unfold State.unlinkChild
  dsimp only
  split
  · rfl
  · split
    · exact State.startReminder_ties ..
    · exact State.offerOpened_ties ..

theorem State.Sound.unlinkChild {s : State} {d : Depth} {k : Slack} (h : s.Sound d k) {c : Nat}
    (hparent : d.Links → c ∉ k.leaving ∧ ∀ f p, s.core? c = some f → f.parent = some p → p ∈ k.stale) :
    (s.unlinkChild c).Sound d k := (h.unlinkFault hparent).of_ties (s.unlinkChild_ties c)

theorem State.mem_childFaults {s : State} (hd : Table.distinct s.faults) {y x : Nat} {g : FaultRecord}
    (hy : s.fault? y = some g) : y ∈ s.childFaults x ↔ g.parent = some x := by
  simp only [State.childFaults, Table.mem_keysWhere, decide_eq_true_eq]
  constructor
  · rintro ⟨v, hv, hparent⟩
    obtain rfl : v = g := Option.some.inj ((Table.get?_of_mem hd hv).symm.trans hy)
    exact hparent
  · exact fun hparent => ⟨g, Table.mem_of_get? hy, hparent⟩

theorem State.FaultsTied.distinct_faults {s : State} {k : Slack} (h : s.FaultsTied k) : Table.distinct s.faults := by
  have hids := h.ids
  rwa [Table.distinct, State.cores_keys] at hids

theorem State.childCount_nil_eq_zero {s : State} (hd : Table.distinct s.cores) {x : Nat} :
    s.childCount [] x = 0 ↔ ∀ y f, s.core? y = some f → f.parent ≠ some x := by
  simp only [State.childCount, Table.countWhere_eq_zero, List.not_mem_nil, not_false_eq_true, decide_true,
    Bool.and_true, decide_eq_false_iff_not]
  exact ⟨fun h y f hy => h y f (Table.mem_of_get? hy), fun h y f hy => h y f (Table.get?_of_mem hd hy)⟩

/-- The entries and children of a record that reaches its clearing limit, set free (R140 steps 1 and 2). -/
def State.limitFreed (s : State) (x : Nat) : State :=
  overKeys (sortIds (s.childFaults x)) (fun c t => t.unlinkChild c)
    (overKeys (s.linkedTerms x) (fun a t => t.unfoldAtLimit a) s)

theorem State.clearingLimit_of_some {s : State} {x : Nat} {f : FaultRecord} (hx : s.fault? x = some f) :
    s.clearingLimit x = match f.parent with
      | some p => ((((s.limitFreed x).offerHeld x).dropChild p).progress p).removeFault x
      | none => (((s.limitFreed x).offerHeld x).offerClosed x .clearingLimit (s.linkedTerms x).length
          (sortIds (s.childFaults x)).length).removeFault x := by
  simp only [State.clearingLimit, hx]
  rfl

theorem State.unfoldAtLimits_faults (keys : List Nat) (s : State) :
    (overKeys keys (fun a t => t.unfoldAtLimit a) s).faults = s.faults :=
  overKeys_keeps (f := fun a t => State.unfoldAtLimit t a) (p := fun t : State => t.faults = s.faults)
    (fun a t h => (t.unfoldAtLimit_faults a).trans h) _ _ rfl

theorem State.unlinkChildren_fault? (keys : List Nat) (s : State) (y : Nat) :
    (overKeys keys (fun c t => t.unlinkChild c) s).fault? y =
      if y ∈ keys then (s.fault? y).map (FaultRecord.unlinked s.settings.reminder.toNat) else s.fault? y := by
  induction keys generalizing s with
  | nil => rfl
  | cons c keys ih =>
    change (overKeys keys (fun c t => t.unlinkChild c) (s.unlinkChild c)).fault? y = _
    rw [ih, State.unlinkChild_fault?, State.settings_of_kept (s.unlinkChild_kept c)]
    by_cases hy : y = c <;> by_cases hm : y ∈ keys <;>
      simp [hy, hm, Function.comp_def, FaultRecord.unlinked_unlinked]

/-- What the freeing at a clearing limit makes of the records: the children become top records. -/
theorem State.limitFreed_fault? (s : State) (x y : Nat) : (s.limitFreed x).fault? y =
    if y ∈ s.childFaults x then (s.fault? y).map (FaultRecord.unlinked s.settings.reminder.toNat) else s.fault? y := by
  have hfaults := State.unfoldAtLimits_faults (s.linkedTerms x) s
  have hfault : (overKeys (s.linkedTerms x) (fun a t => t.unfoldAtLimit a) s).fault? y = s.fault? y := by
    rw [State.fault?, hfaults]; rfl
  have hsettings : (overKeys (s.linkedTerms x) (fun a t => t.unfoldAtLimit a) s).settings = s.settings :=
    State.settings_of_kept (overKeys_kept (fun c t => t.unfoldAtLimit_kept c) _ _)
  rw [State.limitFreed, State.unlinkChildren_fault?, hfault, hsettings]
  simp only [mem_sortIds]

theorem State.unlinkChild_terms (s : State) (c : Nat) : (s.unlinkChild c).terms = s.terms :=
  (State.terms_of_ties (s.unlinkChild_ties c) :)

theorem State.unlinkChildren_terms (keys : List Nat) (s : State) :
    (overKeys keys (fun c t => t.unlinkChild c) s).terms = s.terms :=
  overKeys_keeps (f := fun c t => State.unlinkChild t c) (p := fun t : State => t.terms = s.terms)
    (fun c t h => (t.unlinkChild_terms c).trans h) _ _ rfl

/-- The freeing at a clearing limit keeps the agreement but for the counts of the record; nothing is left linked to
it. -/
theorem State.Sound.limitFreed {s : State} {d : Depth} (h : s.Sound d .tight) (x : Nat) :
    (s.limitFreed x).Sound d (Slack.tight.stain x) ∧ (s.limitFreed x).linkCount x = 0 ∧
      (d.Links → (s.limitFreed x).childCount [] x = 0) := by
  obtain ⟨hunfolded, hzero⟩ := (h.stain x).unfoldRun (f := fun a t => t.unfoldAtLimit a) (g := Terminal.released)
    (fun a t ht hstale => ht.unfoldAtLimit a hstale) (fun a t b => t.unfoldAtLimit_term? a b) fun _ => rfl
  have hfaults := State.unfoldAtLimits_faults (s.linkedTerms x) s
  have hfreed : (s.limitFreed x).Sound d (Slack.tight.stain x) ∧
      (d.Links → ∀ c ∈ s.childFaults x, ∀ f p, (s.limitFreed x).core? c = some f → f.parent = some p → p = x) := by
    refine overKeys_keeps_mem (f := fun c t => State.unlinkChild t c) (p := fun t : State =>
      t.Sound d (Slack.tight.stain x) ∧
      (d.Links → ∀ c ∈ s.childFaults x, ∀ f p, t.core? c = some f → f.parent = some p → p = x))
      (fun c hc t ht => ⟨?_, fun hd b hb f p hf hp => ?_⟩) _ ⟨hunfolded, fun hd c hc f p hf hp => ?_⟩
    · obtain ⟨hs, hl⟩ := ht
      rw [mem_sortIds] at hc
      exact hs.unlinkChild fun hd => ⟨by simp, fun f p hf hp => by simp [hl hd c hc f p hf hp]⟩
    · obtain ⟨-, hl⟩ := ht
      rw [State.core?_of_ties (t.unlinkChild_ties c), State.modFault_core? _ _ _ FaultRecord.core_unlinked] at hf
      split at hf
      · obtain ⟨f₀, -, rfl⟩ := Option.map_eq_some_iff.mp hf
        cases hp
      · exact hl hd b hb f p hf hp
    · have hcore : s.core? c = some f := by
        rwa [State.core?, State.cores, hfaults] at hf
      obtain ⟨g, hg, rfl⟩ := State.core?_eq_some.mp hcore
      have hparent := (State.mem_childFaults (h.faults hd.faults).distinct_faults hg).mp hc
      exact (Option.some.inj (hparent.symm.trans hp)).symm
  refine ⟨hfreed.1, ?_, fun hd => ?_⟩
  · rw [State.linkCount, State.limitFreed, State.unlinkChildren_terms]
    exact hzero
  · rw [State.childCount_nil_eq_zero (hfreed.1.faults hd.faults).ids]
    intro y c hc hp
    obtain ⟨g, hg, rfl⟩ := State.core?_eq_some.mp hc
    rw [State.limitFreed_fault?] at hg
    split at hg
    · obtain ⟨g₀, -, rfl⟩ := Option.map_eq_some_iff.mp hg
      cases hp
    · next hmem =>
      exact hmem ((State.mem_childFaults (h.faults hd.faults).distinct_faults hg).mpr hp)

theorem State.Sound.clearingLimit {s : State} {d : Depth} (h : s.Sound d .tight) (x : Nat) :
    (s.clearingLimit x).Sound d .tight := by
  cases hx : s.fault? x with
  | none => rwa [State.clearingLimit, hx]
  | some f =>
    obtain ⟨hsound, hzero, hchildren⟩ := h.limitFreed x
    have hties := (s.limitFreed x).offerHeld_ties x
    have hout : d.Links → ∃ g, ((s.limitFreed x).offerHeld x).core? x = some g ∧ g.parent = f.parent := fun hd => by
      have hself : x ∉ s.childFaults x := fun hmem => by
        have hloop := (State.mem_childFaults (h.faults hd.faults).distinct_faults hx).mp hmem
        obtain ⟨-, g, hg, -, -, hlt⟩ := (h.links hd).parent x _ x (State.core?_of_fault? hx) (by simp) hloop
        obtain rfl := Option.some.inj ((State.core?_of_fault? hx).symm.trans hg)
        exact absurd hlt (lt_irrefl _)
      have hsame : (s.limitFreed x).fault? x = some f := by rw [State.limitFreed_fault?, if_neg hself, hx]
      rw [State.core?_of_ties hties]
      exact ⟨_, State.core?_of_fault? hsame, rfl⟩
    have hlinks : d.Faults → ((s.limitFreed x).offerHeld x).linkCount x = 0 := fun _ =>
      (State.linkCount_of_ties hties x).trans hzero
    rw [State.clearingLimit_of_some hx]
    cases hp : f.parent with
    | none =>
      have hties' := ((s.limitFreed x).offerHeld x).offerClosed_ties x .clearingLimit (s.linkedTerms x).length
        (sortIds (s.childFaults x)).length
      refine State.Sound.closeTop ((hsound.of_ties hties).of_ties hties')
        (fun hd => (State.linkCount_of_ties hties' x).trans (hlinks hd)) fun hd => ?_
      obtain ⟨g, hg, hparent⟩ := hout hd
      rw [State.core?_of_ties hties', State.childCount_of_ties hties', State.childCount_of_ties hties]
      exact ⟨hchildren hd, g, hg, hparent.trans hp⟩
    | some p =>
      refine (hsound.of_ties hties).closeUnder hlinks fun hd => ?_
      obtain ⟨g, hg, hparent⟩ := hout hd
      rw [State.childCount_of_ties hties]
      exact ⟨hchildren hd, g, hg, hparent.trans hp⟩

end Sys2Proof.Machine

namespace Sys2Proof.Machine

/-! ## Records that only go (R144) -/

section Counts

variable {α : Type}

theorem Table.countWhere_le {t : Table α} {p q : Nat → α → Bool} (h : ∀ k v, p k v = true → q k v = true) :
    Table.countWhere t p ≤ Table.countWhere t q := by
  induction t with
  | nil => exact le_rfl
  | cons e t ih =>
    rw [Table.countWhere_cons, Table.countWhere_cons]
    have himp := h e.1 e.2
    by_cases hpe : p e.1 e.2 = true
    · rw [if_pos hpe, if_pos (himp hpe)]
      omega
    · rw [if_neg hpe]
      split
      · omega
      · exact ih

theorem Table.countWhere_lt {t : Table α} {p q : Nat → α → Bool} (h : ∀ k v, p k v = true → q k v = true) {k : Nat}
    {v : α} (hmem : (k, v) ∈ t) (hp : p k v = false) (hq : q k v = true) :
    Table.countWhere t p < Table.countWhere t q := by
  induction t with
  | nil => cases hmem
  | cons e t ih =>
    rw [Table.countWhere_cons, Table.countWhere_cons]
    rcases List.mem_cons.mp hmem with rfl | hmem
    · have := Table.countWhere_le (t := t) h
      simp only [hp, hq, Bool.false_eq_true, if_false, if_true]
      omega
    · have hlt := ih hmem
      have himp := h e.1 e.2
      by_cases hpe : p e.1 e.2 = true
      · rw [if_pos hpe, if_pos (himp hpe)]
        omega
      · rw [if_neg hpe]
        omega

/-- A count of keys goes by the keys alone. -/
theorem Table.countWhere_keys (t : Table α) (p : Nat → Bool) :
    Table.countWhere t (fun k _ => p k) = ((t.map Prod.fst).filter p).length := by
  simp [Table.countWhere, List.filter_map, Function.comp_def]

end Counts

/-- `t` is `s` after some records have gone; of the others at most the child count has changed. -/
structure State.Thins (s t : State) : Prop where
  keys    : (t.faults.map Prod.fst).Sublist (s.faults.map Prod.fst)
  records : ∀ y g, t.fault? y = some g → ∃ g₀, s.fault? y = some g₀ ∧ g = { g₀ with children := g.children }

theorem State.Thins.of_faults {s t : State} (h : t.faults = s.faults) : s.Thins t where
  keys := by rw [h]
  records := fun y g hg => ⟨g, by rwa [State.fault?, h] at hg, rfl⟩

theorem State.Thins.refl (s : State) : s.Thins s := .of_faults rfl

theorem State.Thins.trans {s t u : State} (h : s.Thins t) (g : t.Thins u) : s.Thins u where
  keys := g.keys.trans h.keys
  records := fun y r hr => by
    obtain ⟨r₁, hr₁, hsame₁⟩ := g.records y r hr
    obtain ⟨r₀, hr₀, hsame₀⟩ := h.records y r₁ hr₁
    exact ⟨r₀, hr₀, by rw [hsame₁, hsame₀]⟩

theorem State.Thins.distinct {s t : State} (h : s.Thins t) (hd : Table.distinct s.faults) : Table.distinct t.faults :=
  List.Nodup.sublist h.keys hd

theorem State.Thins.none {s t : State} (h : s.Thins t) {y : Nat} (hy : s.fault? y = none) : t.fault? y = none := by
  cases ht : t.fault? y with
  | none => rfl
  | some g =>
    obtain ⟨g₀, hg₀, -⟩ := h.records y g ht
    rw [hy] at hg₀
    cases hg₀

theorem State.Thins.parent {s t : State} (h : s.Thins t) {y p : Nat} {g : FaultRecord} (hg : t.fault? y = some g)
    (hp : g.parent = some p) : ∃ g₀, s.fault? y = some g₀ ∧ g₀.parent = some p := by
  obtain ⟨g₀, hg₀, hsame⟩ := h.records y g hg
  rw [hsame] at hp
  exact ⟨g₀, hg₀, hp⟩

theorem State.Thins.below {s t : State} (h : s.Thins t) {x y : Nat} (hb : t.Below x y) : s.Below x y :=
  Relation.TransGen.mono (fun _ _ ⟨_, hf, hp⟩ => h.parent hf hp) x y hb

/-- Links make no ring: every parent has a smaller rank. -/
def State.Ranked (s : State) (rank : Nat → Nat) : Prop :=
  ∀ x g p, s.fault? x = some g → g.parent = some p → rank p < rank x

theorem State.Thins.ranked {s t : State} (h : s.Thins t) {rank : Nat → Nat} (hr : s.Ranked rank) : t.Ranked rank :=
  fun x g p hg hp => by
    obtain ⟨g₀, hg₀, hp₀⟩ := h.parent hg hp
    exact hr x g₀ p hg₀ hp₀

theorem State.Ranked.below {s : State} {rank : Nat → Nat} (h : s.Ranked rank) {x y : Nat} (hb : s.Below x y) :
    rank y < rank x := by
  induction hb with
  | single hstep =>
    obtain ⟨g, hg, hp⟩ := hstep
    exact h _ g _ hg hp
  | tail _ hstep ih =>
    obtain ⟨g, hg, hp⟩ := hstep
    exact (h _ g _ hg hp).trans ih

/-- How many records have a rank above another's: the fuel that the removal below it needs. -/
def State.above (s : State) (rank : Nat → Nat) (x : Nat) : Nat :=
  Table.countWhere s.faults fun y _ => decide (rank x < rank y)

theorem State.Thins.above {s t : State} (h : s.Thins t) (rank : Nat → Nat) (x : Nat) : t.above rank x ≤ s.above rank x := by
  unfold State.above
  rw [Table.countWhere_keys t.faults fun y => decide (rank x < rank y),
    Table.countWhere_keys s.faults fun y => decide (rank x < rank y)]
  exact (h.keys.filter _).length_le

theorem State.above_child {s : State} {rank : Nat → Nat} {x c : Nat} {g : FaultRecord} (hc : s.fault? c = some g)
    (hlt : rank x < rank c) : s.above rank c < s.above rank x :=
  Table.countWhere_lt (fun y _ hy => by simp only [decide_eq_true_eq] at hy ⊢; omega) (Table.mem_of_get? hc) (by simp)
    (by simpa using hlt)

/-! ## One child of a cleared record -/

/-- A record of a cleared subtree leaves its parent's child count and goes. -/
def State.takeOut (s : State) (c : Nat) : State :=
  (match (s.fault? c).bind FaultRecord.parent with
    | some p => s.dropChild p
    | none => s).removeFault c

/-- A child of a cleared record goes with all below it: the state and the two counts (R144). -/
def clearChild (n : Nat) (acc : State × Nat × Nat) (c : Nat) : State × Nat × Nat :=
  (((clearBelow n c acc).1.clearTerms c).1.takeOut c, (clearBelow n c acc).2.1 + 1,
    (clearBelow n c acc).2.2 + ((clearBelow n c acc).1.clearTerms c).2)

theorem clearBelow_succ (n x : Nat) (acc : State × Nat × Nat) :
    clearBelow (n + 1) x acc = (sortIds (acc.1.childFaults x)).foldl (clearChild n) acc := rfl

theorem State.clearTerms_faults (s : State) (c : Nat) : (s.clearTerms c).1.faults = s.faults :=
  overKeys_keeps (f := fun a t => State.unfoldCleared t a) (p := fun t : State => t.faults = s.faults)
    (fun _ _ h => h) _ _ rfl

theorem State.clearTerms_fault? (s : State) (c y : Nat) : (s.clearTerms c).1.fault? y = s.fault? y := by
  rw [State.fault?, State.clearTerms_faults]; rfl

theorem State.clearTerms_cores (s : State) (c : Nat) : (s.clearTerms c).1.cores = s.cores := by
  rw [State.cores, State.clearTerms_faults]; rfl

theorem State.dropChild_fault? (s : State) (p y : Nat) : (s.dropChild p).fault? y =
    if y = p then (s.fault? y).map fun f => { f with children := f.children - 1 } else s.fault? y :=
  s.modFault_fault? p y _

theorem State.dropChild_thins (s : State) (p : Nat) : s.Thins (s.dropChild p) where
  keys := by rw [State.dropChild, State.modFault_faults, Table.keys_modify]
  records := fun y g hg => by
    rw [State.dropChild_fault?] at hg
    split at hg
    · obtain ⟨g₀, hg₀, rfl⟩ := Option.map_eq_some_iff.mp hg
      exact ⟨g₀, hg₀, rfl⟩
    · exact ⟨g, hg, rfl⟩

theorem State.removeFault_thins (s : State) (c : Nat) : s.Thins (s.removeFault c) where
  keys := by rw [State.removeFault_faults]; exact List.filter_sublist.map _
  records := fun y g hg => by
    rw [State.removeFault_fault?] at hg
    split at hg
    · cases hg
    · exact ⟨g, hg, rfl⟩

theorem State.takeOut_thins (s : State) (c : Nat) : s.Thins (s.takeOut c) := by
  refine State.Thins.trans ?_ (State.removeFault_thins _ c)
  split
  · exact s.dropChild_thins _
  · exact State.Thins.refl s

theorem State.takeOut_fault?_self (s : State) (c : Nat) : (s.takeOut c).fault? c = none := by
  rw [State.takeOut, State.removeFault_fault?, if_pos rfl]

theorem clearBelow_thins (n x : Nat) (acc : State × Nat × Nat) : acc.1.Thins (clearBelow n x acc).1 := by
  induction n generalizing x acc with
  | zero => exact State.Thins.refl _
  | succ n ih =>
    rw [clearBelow_succ]
    generalize sortIds (acc.1.childFaults x) = l
    induction l generalizing acc with
    | nil => exact State.Thins.refl _
    | cons c l ihl =>
      have hchild : acc.1.Thins (clearChild n acc c).1 :=
        ((ih c acc).trans (.of_faults (State.clearTerms_faults ..))).trans (State.takeOut_thins ..)
      exact hchild.trans (ihl _)

theorem clearChild_thins (n : Nat) (acc : State × Nat × Nat) (c : Nat) : acc.1.Thins (clearChild n acc c).1 :=
  ((clearBelow_thins n c acc).trans (.of_faults (State.clearTerms_faults ..))).trans (State.takeOut_thins ..)

theorem clearChildren_thins (n : Nat) (l : List Nat) (acc : State × Nat × Nat) :
    acc.1.Thins (l.foldl (clearChild n) acc).1 := by
  induction l generalizing acc with
  | nil => exact State.Thins.refl _
  | cons c l ih => exact (clearChild_thins n acc c).trans (ih _)

/-- The children that the removal goes over are gone after it. -/
theorem clearChildren_fault? {n c : Nat} {l : List Nat} (hc : c ∈ l) (acc : State × Nat × Nat) :
    (l.foldl (clearChild n) acc).1.fault? c = none := by
  induction l generalizing acc with
  | nil => cases hc
  | cons b l ih =>
    rw [List.foldl_cons]
    rcases List.mem_cons.mp hc with rfl | hc
    · exact (clearChildren_thins n l _).none (State.takeOut_fault?_self ..)
    · exact ih hc _

/-- With fuel enough no record is left linked to the one whose subtree has been removed. -/
theorem clearBelow_childless {n x : Nat} {acc : State × Nat × Nat} (hd : Table.distinct acc.1.faults)
    {rank : Nat → Nat} (hr : acc.1.Ranked rank) (hfuel : acc.1.above rank x ≤ n) {y : Nat} {g : FaultRecord}
    (hg : (clearBelow n x acc).1.fault? y = some g) : g.parent ≠ some x := by
  intro hp
  obtain ⟨g₀, hg₀, hp₀⟩ := (clearBelow_thins n x acc).parent hg hp
  cases n with
  | zero =>
    have := State.above_child hg₀ (hr y g₀ x hg₀ hp₀)
    omega
  | succ n =>
    have hy : y ∈ sortIds (acc.1.childFaults x) := (mem_sortIds ..).mpr ((State.mem_childFaults hd hg₀).mpr hp₀)
    rw [clearBelow_succ, clearChildren_fault? hy] at hg
    cases hg

/-- Only records below the one named go. -/
theorem clearBelow_gone {n x : Nat} {acc : State × Nat × Nat} (hd : Table.distinct acc.1.faults) {y : Nat}
    (hy : (acc.1.fault? y).isSome = true) (hgone : (clearBelow n x acc).1.fault? y = none) : acc.1.Below y x := by
  induction n generalizing x acc with
  | zero => rw [show (clearBelow 0 x acc).1 = acc.1 from rfl] at hgone; simp [hgone] at hy
  | succ n ih =>
    rw [clearBelow_succ] at hgone
    have hkids : ∀ c ∈ sortIds (acc.1.childFaults x), acc.1.Below c x := by
      intro c hc
      rw [mem_sortIds, State.childFaults, Table.mem_keysWhere] at hc
      obtain ⟨f, hf, hp⟩ := hc
      exact .single ⟨f, Table.get?_of_mem hd hf, by simpa using hp⟩
    generalize sortIds (acc.1.childFaults x) = l at hgone hkids
    have hrun : ∀ (l : List Nat) (cur : State × Nat × Nat), acc.1.Thins cur.1 → (∀ c ∈ l, acc.1.Below c x) →
        (cur.1.fault? y).isSome = true → (l.foldl (clearChild n) cur).1.fault? y = none → acc.1.Below y x := by
      intro l
      induction l with
      | nil =>
        intro cur _ _ hsome hnone
        rw [List.foldl_nil] at hnone
        simp [hnone] at hsome
      | cons c l ihl =>
        intro cur hthin hbelow hsome hnone
        cases hnext : ((clearChild n cur c).1.fault? y) with
        | some g =>
          exact ihl _ (hthin.trans (clearChild_thins n cur c)) (fun b hb => hbelow b (by simp [hb])) (by simp [hnext])
            hnone
        | none =>
          by_cases hyc : y = c
          · exact hyc ▸ hbelow c (by simp)
          · have hwas : (clearBelow n c cur).1.fault? y = none := by
              cases hb : (clearBelow n c cur).1.fault? y with
              | none => rfl
              | some g =>
                rw [clearChild, State.takeOut, State.removeFault_fault?, if_neg hyc] at hnext
                split at hnext
                · rw [State.dropChild_fault?, State.clearTerms_fault?, hb] at hnext
                  split at hnext <;> cases hnext
                · rw [State.clearTerms_fault?, hb] at hnext
                  cases hnext
            exact Relation.TransGen.trans (hthin.below (ih (hthin.distinct hd) hsome hwas)) (hbelow c (by simp))
    exact hrun l acc (State.Thins.refl _) hkids hy hgone

/-! ## FAULT_CLEAR keeps the agreement -/

theorem State.Sound.clearTerms {s : State} {d : Depth} (h : s.Sound d .tight) (c : Nat) :
    (s.clearTerms c).1.Sound d (Slack.tight.stain c) ∧ (s.clearTerms c).1.linkCount c = 0 :=
  (h.stain c).unfoldRun (f := fun a t => t.unfoldCleared a) (g := Terminal.cleared)
    (fun a _ ht hstale => ht.unfoldCleared a hstale) (fun a t b => t.unfoldCleared_term? a b) fun _ => rfl

theorem State.Sound.takeOut {s : State} {d : Depth} {c : Nat} (h : s.Sound d (Slack.tight.stain c))
    (hlinks : s.linkCount c = 0) (hno : d.Links → s.childCount [] c = 0) : (s.takeOut c).Sound d .tight := by
  unfold State.takeOut
  cases hc : s.fault? c with
  | none =>
    rw [Option.bind_none, State.removeFault_of_none hc]
    exact h.unstain_gone (State.core?_eq_none.mpr hc)
  | some f =>
    rw [Option.bind_some]
    split
    · next p hp =>
      exact (h.leaveParent fun hd => ⟨by simp, hno hd, _, State.core?_of_fault? hc, hp⟩).removeStained
        fun _ => hlinks
    · next hp => exact h.closeTop (fun _ => hlinks) fun hd => ⟨hno hd, _, State.core?_of_fault? hc, hp⟩

theorem State.Sound.childCount_of_parents {s : State} {d : Depth} {k : Slack} (h : s.Sound d k) (hd : d.Links) {x : Nat}
    (hno : ∀ y g, s.fault? y = some g → g.parent ≠ some x) : s.childCount [] x = 0 := by
  rw [State.childCount_nil_eq_zero (h.faults hd.faults).ids]
  intro y c hc
  obtain ⟨g, hg, rfl⟩ := State.core?_eq_some.mp hc
  exact hno y g hg

theorem State.Sound.clearBelow {d : Depth} {n x : Nat} {acc : State × Nat × Nat} (h : acc.1.Sound d .tight)
    {rank : Nat → Nat} (hr : d.Links → acc.1.Ranked rank) (hfuel : d.Links → acc.1.above rank x ≤ n) :
    (clearBelow n x acc).1.Sound d .tight := by
  induction n generalizing x acc with
  | zero => exact h
  | succ n ih =>
    rw [clearBelow_succ]
    have hkids : d.Links → ∀ c ∈ sortIds (acc.1.childFaults x), acc.1.above rank c ≤ n := by
      intro hd c hc
      rw [mem_sortIds, State.childFaults, Table.mem_keysWhere] at hc
      obtain ⟨f, hf, hp⟩ := hc
      have hget : acc.1.fault? c = some f := Table.get?_of_mem (h.faults hd.faults).distinct_faults hf
      have hlt := State.above_child hget (hr hd c f x hget (by simpa using hp))
      have := hfuel hd
      omega
    clear hfuel
    generalize sortIds (acc.1.childFaults x) = l at hkids
    induction l generalizing acc with
    | nil => exact h
    | cons c l ihl =>
      rw [List.foldl_cons]
      have hbelow := ih (x := c) h hr fun hd => hkids hd c (by simp)
      obtain ⟨hterms, hzero⟩ := hbelow.clearTerms c
      have hchild : (clearChild n acc c).1.Sound d .tight := by
        refine hterms.takeOut hzero fun hd => hterms.childCount_of_parents hd fun y g hg => ?_
        rw [State.clearTerms_fault?] at hg
        exact clearBelow_childless (h.faults hd.faults).distinct_faults (hr hd) (hkids hd c (by simp)) hg
      have hthin := clearChild_thins n acc c
      exact ihl hchild (fun hd => hthin.ranked (hr hd)) fun hd b hb =>
        (hthin.above rank b).trans (hkids hd b (by simp [hb]))

theorem State.rankAt_le (s : State) (i : Nat) : s.rankAt i ≤ 3 := by
  unfold State.rankAt
  cases s.levelAt i with
  | none => simp
  | some l => cases l <;> simp [Level.code]

/-- Where the links agree, the level of a record's domain ranks it (R125, R136). -/
theorem State.LinksTied.ranked {s : State} (h : s.LinksTied .tight) : s.Ranked fun x => 3 - s.faultRank x := by
  intro x g p hg hp
  have hcore := State.core?_of_fault? hg
  obtain ⟨-, q, hq, -, -, hlt⟩ := h.parent x _ p hcore (by simp) hp
  have hle := s.rankAt_le q.subject
  simp only [State.faultRank, hcore, hq, Option.map_some, Option.getD_some]
  omega

theorem State.above_le (s : State) (rank : Nat → Nat) (x : Nat) : s.above rank x ≤ s.faults.length + 1 :=
  (Table.countWhere_le_length ..).trans (Nat.le_succ _)

/-- A record with all below it removed, its own terminals unfolded and FAULT_CLOSED offered, before it goes itself
(R144). -/
def State.clearedOut (s : State) (x : Nat) : State :=
  ((((clearBelow (s.faults.length + 1) x (s, 0, 0)).1.offerHeld x).clearTerms x).1).offerClosed x .host 0 0

theorem State.clearFault_of_some {s : State} {x : Nat} {f : FaultRecord} (hx : s.fault? x = some f) :
    (s.clearFault x).1 = match f.parent with
      | some p => (((s.clearedOut x).dropChild p).progress p).removeFault x
      | none => (s.clearedOut x).removeFault x := by
  simp only [State.clearFault, hx]
  cases f.parent <;> rfl

theorem State.offerHeld_thins_core (s : State) (x y : Nat) : (s.offerHeld x).core? y = s.core? y :=
  State.core?_of_ties (s.offerHeld_ties x) y

theorem State.Sound.clearFault {s : State} {d : Depth} (h : s.Sound d .tight) (x : Nat) :
    (s.clearFault x).1.Sound d .tight := by
  cases hx : s.fault? x with
  | none => rwa [State.clearFault, hx]
  | some f =>
    have hbelow : (Machine.clearBelow (s.faults.length + 1) x (s, 0, 0)).1.Sound d .tight :=
      State.Sound.clearBelow h (fun hd => (h.links hd).ranked) fun _ => State.above_le ..
    have hheld := hbelow.of_ties (State.offerHeld_ties _ x)
    obtain ⟨hterms, hzero⟩ := hheld.clearTerms x
    have hties := State.offerClosed_ties (((Machine.clearBelow (s.faults.length + 1) x (s, 0, 0)).1.offerHeld x).clearTerms
      x).1 x .host 0 0
    have hsound : (s.clearedOut x).Sound d (Slack.tight.stain x) := hterms.of_ties hties
    have hlinks : d.Faults → (s.clearedOut x).linkCount x = 0 := fun _ => (State.linkCount_of_ties hties x).trans hzero
    have hout : d.Links → (s.clearedOut x).childCount [] x = 0 ∧
        ∃ g, (s.clearedOut x).core? x = some g ∧ g.parent = f.parent := by
      intro hd
      have hids := (h.faults hd.faults).distinct_faults
      have hcores : ∀ y, (s.clearedOut x).core? y = (Machine.clearBelow (s.faults.length + 1) x (s, 0, 0)).1.core? y :=
        fun y => by
          rw [State.clearedOut, State.core?_of_ties hties, State.core?, State.clearTerms_cores]
          exact State.offerHeld_thins_core ..
      refine ⟨?_, ?_⟩
      · rw [State.childCount_nil_eq_zero (hsound.faults hd.faults).ids]
        intro y c hc
        rw [hcores] at hc
        obtain ⟨g, hg, rfl⟩ := State.core?_eq_some.mp hc
        exact clearBelow_childless (acc := (s, 0, 0)) hids (h.links hd).ranked (State.above_le ..) hg
      · rw [hcores]
        cases ht : (Machine.clearBelow (s.faults.length + 1) x (s, 0, 0)).1.fault? x with
        | none =>
          have hloop := clearBelow_gone (acc := (s, 0, 0)) hids (by simp [hx]) ht
          exact absurd ((h.links hd).ranked.below hloop) (lt_irrefl _)
        | some g =>
          obtain ⟨g₀, hg₀, hsame⟩ := (clearBelow_thins (s.faults.length + 1) x (s, 0, 0)).records x g ht
          obtain rfl : f = g₀ := Option.some.inj (hx.symm.trans hg₀)
          exact ⟨_, State.core?_of_fault? ht, by rw [hsame]; rfl⟩
    rw [State.clearFault_of_some hx]
    cases hp : f.parent with
    | none => exact hsound.closeTop hlinks fun hd => (hout hd).imp_right fun ⟨g, hg, hparent⟩ => ⟨g, hg, hparent.trans hp⟩
    | some p =>
      exact hsound.closeUnder hlinks fun hd => (hout hd).imp_right fun ⟨g, hg, hparent⟩ => ⟨g, hg, hparent.trans hp⟩

end Sys2Proof.Machine

namespace Sys2Proof.Machine

/-! ## The entries that the terminal table makes (R82, R83) -/

theorem TState.isOff_eq_true {st : TState} : st.isOff = true ↔ st = .offDark ∨ st = .offPower := by
  cases st <;> simp [TState.isOff]

section Entries

variable {e : Terminal} (h : e.Agrees)
include h

theorem Terminal.Agrees.gaspHold_none (hst : e.state ≠ .gasped) : e.gaspHold = none :=
  Option.not_isSome_iff_eq_none.mp fun hs => hst (h.gaspHold hs)

theorem Terminal.Agrees.holdDown_none (hst : e.state ≠ .restoring) : e.holdDown = none :=
  Option.not_isSome_iff_eq_none.mp fun hs => hst (h.holdDown hs)

theorem Terminal.Agrees.offSince_none (hst : e.state ≠ .restoring) : e.offSince = none :=
  Option.not_isSome_iff_eq_none.mp fun hs => hst (h.offSince hs)

/-- An entry that is not off, nor on its way back from an off state, nor lost in one, is linked to no record. -/
theorem Terminal.Agrees.link_none (hoff : e.state.isOff = false) (hback : e.state ≠ .restoring)
    (hlost : e.state = .noContact → (e.prior.map TState.isOff).getD false = false) : e.link = none := by
  refine Option.not_isSome_iff_eq_none.mp fun hs => ?_
  rcases h.folded hs with hst | hst | ⟨hst, hprior⟩
  · rw [hoff] at hst; cases hst
  · exact hback hst
  · rw [hlost hst] at hprior; cases hprior

end Entries

/-- An entry in a state with no prior state agrees, where its timers stand still and its link is one of an off entry. -/
theorem Terminal.Agrees.of_settled {u : Terminal} (hback : u.state ≠ .restoring) (hlost : u.state ≠ .noContact)
    (hprior : u.prior = none) (hgasp : u.gaspHold.isSome = true → u.state = .gasped) (hhold : u.holdDown = none)
    (hsince : u.offSince = none) (hlit : u.lit = true ↔ u.state = .lit ∨ u.state = .gasped)
    (hlink : u.link.isSome = true → u.state.isOff = true) : u.Agrees where
  gaspHold := hgasp
  holdDown := by simp [hhold]
  offSince := by simp [hsince]
  prior := by simp [hprior, hback, hlost]
  restoring := fun hst => absurd hst hback
  lit := fun _ => by simp [hlit, hback]
  folded := fun hs => .inl (hlink hs)

/-- An entry that turns LIT or GASPED (R86, R88, R90). -/
theorem Terminal.keeps_lighted {e u : Terminal} (hlink : e.Agrees → e.link = none) (hst : u.state = .lit ∨ u.state = .gasped)
    (hgasp : u.gaspHold.isSome = true → u.state = .gasped) (hlit : u.lit = true)
    (hrest : (u.prior, u.link, u.prov.domain) = (none, e.link, e.prov.domain))
    (hhold : e.Agrees → u.holdDown = none ∧ u.offSince = none) : e.Keeps u := by
  simp only [Prod.mk.injEq] at hrest
  obtain ⟨hprior, hsame, hdomain⟩ := hrest
  refine ⟨fun h => ?_, hsame, hdomain, fun hheld => ?_⟩
  · obtain ⟨hdown, hsince⟩ := hhold h
    refine .of_settled ?_ ?_ hprior hgasp hdown hsince ?_ ?_
    · rcases hst with hst | hst <;> simp [hst]
    · rcases hst with hst | hst <;> simp [hst]
    · simp [hlit, hst]
    · simp [hsame, hlink h]
  · rcases hst with hst | hst <;> simp [Terminal.held, TState.isHeld, hst] at hheld

theorem Terminal.Agrees.of_same {e u : Terminal} (h : e.Agrees)
    (hrest : (u.state, u.lit, u.prior, u.gaspHold, u.holdDown, u.offSince, u.link) =
      (e.state, e.lit, e.prior, e.gaspHold, e.holdDown, e.offSince, e.link)) : u.Agrees := by
  simp only [Prod.mk.injEq] at hrest
  obtain ⟨hst, hlit, hprior, hgasp, hhold, hsince, hlink⟩ := hrest
  obtain ⟨a, b, c, d, f, g, i⟩ := h
  exact ⟨hgasp ▸ hst ▸ a, hhold ▸ hst ▸ b, hsince ▸ hst ▸ c, hprior ▸ hst ▸ d, hprior ▸ hst ▸ f, hlit ▸ hst ▸ g,
    fun hfolded => hst ▸ hprior ▸ i (by rwa [Terminal.folded, hlink] at hfolded)⟩

/-- A change that leaves state, timers, prior state, LIT and link as they are. -/
theorem Terminal.Keeps.of_same {e u : Terminal} (hprov : u.prov.domain = e.prov.domain)
    (hrest : (u.state, u.lit, u.prior, u.gaspHold, u.holdDown, u.offSince, u.link) =
      (e.state, e.lit, e.prior, e.gaspHold, e.holdDown, e.offSince, e.link)) : e.Keeps u :=
  ⟨fun h => h.of_same hrest, congrArg (fun x => x.2.2.2.2.2.2) hrest, hprov, fun hheld => by
    have hst : u.state = e.state := congrArg Prod.fst hrest
    rwa [Terminal.held, hst] at hheld⟩

/-! ## Events (R86 to R92) -/

section Events

variable {s : State} {d : Depth} {k : Slack}

theorem State.Sound.memberEvent (h : s.Sound d k) (i : Nat) : (s.memberEvent i).Sound d k := by
  unfold State.memberEvent
  split
  · exact h
  · exact h.touchWindow i

theorem State.Sound.takeGasp (h : s.Sound d k) {a : Nat} {t : Terminal} (ht : s.term? a = some t) (time : Uptime) :
    (s.takeGasp a t time).Sound d k := by
  have hlighted : t.state = .unseen ∨ t.state = .lit →
      (s.modTerm a fun t => { (t.enter .gasped).stamp time with gasp := true, gaspHold := some s.gaspHoldMs }).Sound d k := by
    intro hst
    refine h.modTerm a fun e he => ?_
    obtain rfl := Option.some.inj (ht.symm.trans he)
    refine Terminal.keeps_lighted (fun ha => ha.link_none ?_ ?_ ?_) (.inr rfl) (fun _ => rfl) rfl rfl
      fun ha => ⟨ha.holdDown_none ?_, ha.offSince_none ?_⟩ <;>
      rcases hst with hst | hst <;> simp [hst, TState.isOff]
  unfold State.takeGasp
  split
  · next hst => exact (hlighted (.inl hst)).memberEvent _
  · next hst => exact (hlighted (.inr hst)).memberEvent _
  · next hst =>
    refine State.Sound.memberEvent (h.modTerm a fun e he => ?_) _
    obtain rfl := Option.some.inj (ht.symm.trans he)
    refine ⟨fun ⟨_, b, c, p, f, g, i⟩ => ⟨fun _ => hst, b, c, p, f, g, i⟩, rfl, rfl, id⟩
  · next hst =>
    refine State.Sound.memberEvent (h.modTerm a fun e he => ?_) _
    obtain rfl := Option.some.inj (ht.symm.trans he)
    refine ⟨fun ha => .of_settled nofun nofun rfl ?_ (ha.holdDown_none ?_) (ha.offSince_none ?_) ?_ ?_, rfl, rfl,
      fun _ => by simp [Terminal.held, TState.isHeld, hst]⟩
    · simp [Terminal.enter, Terminal.stamp, ha.gaspHold_none (by simp [hst])]
    · simp [hst]
    · simp [hst]
    · simp [Terminal.enter, Terminal.stamp]
    · simp [Terminal.enter, Terminal.stamp, ha.link_none (by simp [hst, TState.isOff]) (by simp [hst]) (by simp [hst])]
  · exact h.of_ties (State.modTally_ties ..)
  · exact h.of_ties (State.modTally_ties ..)
  · exact h.of_ties (State.modTally_ties ..)
  · exact h.of_ties (State.modTally_ties ..)
  · exact h.of_ties (State.modTally_ties ..)

/-- An entry that goes dark, its gasp hold stopped. -/
theorem Terminal.Agrees.darkened {e u : Terminal} (h : e.Agrees) (hback : e.state ≠ .restoring) (hlink : e.link = none)
    (hst : u.held = true ∨ u.state.isOff = true) (hlit : u.lit = false)
    (hrest : (u.prior, u.gaspHold, u.holdDown, u.offSince, u.link) = (none, none, e.holdDown, e.offSince, e.link)) :
    u.Agrees := by
  simp only [Prod.mk.injEq] at hrest
  obtain ⟨hprior, hgasp, hhold, hsince, hsame⟩ := hrest
  have hdark : u.state ≠ .restoring ∧ u.state ≠ .noContact ∧ u.state ≠ .lit ∧ u.state ≠ .gasped := by
    cases hu : u.state <;> simp [Terminal.held, TState.isHeld, TState.isOff, hu] at hst ⊢
  obtain ⟨hr, hn, hl, hg⟩ := hdark
  refine .of_settled hr hn hprior (by simp [hgasp]) (hhold ▸ h.holdDown_none hback) (hsince ▸ h.offSince_none hback) ?_ ?_
  · simp [hlit, hl, hg]
  · simp [hsame, hlink]

theorem State.Sound.darkFrom (h : s.Sound d k) {a : Nat} {t : Terminal} (ht : s.term? a = some t) (gasped : Bool)
    (time : Uptime) (hback : t.state ≠ .restoring) (hlink : t.link = none) : (s.darkFrom a t gasped time).Sound d k := by
  have hagrees := h.agrees a t ht
  unfold State.darkFrom State.placeDark
  cases hplace : s.decidedFrom 3 (some t.prov.domain) with
  | some x =>
    dsimp only
    have hdark : (s.modTerm a fun t => { (t.enter (if gasped then .offPower else .offDark)).stamp time with
        gaspHold := none }).Sound d k := by
      refine h.changeTerm ht (hagrees.darkened hback hlink ?_ ?_ rfl) rfl (fun _ hheld => ?_) fun _ => .inl rfl
      · cases gasped <;> simp [Terminal.enter, Terminal.stamp, TState.isOff]
      · cases gasped <;> simp [Terminal.enter, Terminal.stamp]
      · cases gasped <;> simp [Terminal.enter, Terminal.stamp, Terminal.held, TState.isHeld] at hheld
    refine hdark.foldTerm (e := { (t.enter (if gasped then .offPower else .offDark)).stamp time with gaspHold := none })
      ?_ (.inr ?_) hlink fun hd => ?_
    · rw [State.modTerm_term?, if_pos rfl, ht, Option.map_some]
    · cases gasped <;> simp [Terminal.enter, Terminal.stamp, TState.isOff]
    · obtain ⟨j, hj, -⟩ := State.decidedFrom_some hplace
      obtain ⟨f, hf, hkind, -⟩ := (h.faults hd).decided j x hj
      exact ⟨f, hf, fun hu => by simp [hu, FaultKind.onDomain] at hkind⟩
  | none =>
    dsimp only
    have ht' : (s.touchWindow t.prov.domain).term? a = some t := by rw [State.touchWindow_term?, ht]
    refine (h.touchWindow t.prov.domain).changeTerm ht' (hagrees.darkened hback hlink ?_ ?_ rfl) rfl
      (fun hd _ => .inr ?_) fun _ => .inl rfl
    · cases gasped <;> simp [Terminal.enter, Terminal.stamp, Terminal.held, TState.isHeld]
    · cases gasped <;> simp [Terminal.enter, Terminal.stamp]
    · have hlevel := (h.links hd).members a t ht
      obtain ⟨o, ho, -⟩ := Option.map_eq_some_iff.mp hlevel
      exact State.touchWindow_isOpen ho (State.decidedFrom_none hplace)

/-- A RESTORING entry that goes back to the off state it left (R92, R98). -/
theorem Terminal.Agrees.keeps_back {e u : Terminal} (h : e.Agrees) (hst : e.state = .restoring)
    (hrest : (u.state, u.lit, u.prior, u.gaspHold, u.holdDown, u.offSince, u.link, u.prov.domain) =
      (e.prior.getD .offDark, (e.enter (e.prior.getD .offDark)).lit, none, e.gaspHold, none, none, e.link, e.prov.domain)) :
    e.Keeps u := by
  simp only [Prod.mk.injEq] at hrest
  obtain ⟨hback, hlit, hprior, hgasp, hhold, hsince, hlink, hdomain⟩ := hrest
  rw [h.gaspHold_none (by simp [hst])] at hgasp
  obtain ⟨p, hp⟩ : ∃ p, e.prior = some p := Option.isSome_iff_exists.mp (h.prior.mpr (.inl hst))
  have hoff := h.restoring hst
  simp only [hp, Option.map_some, Option.getD_some] at hoff hback hlit
  have hdark : u.state ≠ .restoring ∧ u.state ≠ .noContact ∧ u.held = false ∧ u.lit = false ∧ u.state ≠ .lit ∧
      u.state ≠ .gasped := by
    cases p <;> simp [TState.isOff] at hoff <;> simp [hback, hlit, Terminal.held, TState.isHeld, Terminal.enter]
  obtain ⟨hr, hn, hh, hl, hnl, hng⟩ := hdark
  refine ⟨fun _ => .of_settled hr hn hprior (by simp [hgasp]) hhold hsince (by simp [hl, hnl, hng]) fun _ => hback ▸ hoff,
    hlink, hdomain, fun hheld => by rw [hh] at hheld; cases hheld⟩

theorem State.Sound.flap (h : s.Sound d k) {a : Nat} {t : Terminal} (ht : s.term? a = some t) (time : Uptime)
    (hst : t.state = .restoring) : (s.flap a t time).Sound d k := by
  refine State.Sound.of_ties (h.modTerm a fun e he => ?_) (State.offerWatch_ties ..)
  obtain rfl := Option.some.inj (ht.symm.trans he)
  exact (h.agrees a t ht).keeps_back hst rfl

theorem State.Sound.takeDark (h : s.Sound d k) {a : Nat} {t : Terminal} (ht : s.term? a = some t) (time : Uptime) :
    (s.takeDark a t time).Sound d k := by
  have hagrees := h.agrees a t ht
  unfold State.takeDark
  split
  · next hst => exact h.darkFrom ht false time (by simp [hst]) (hagrees.link_none (by simp [hst, TState.isOff]) (by simp [hst]) (by simp [hst]))
  · next hst => exact h.darkFrom ht false time (by simp [hst]) (hagrees.link_none (by simp [hst, TState.isOff]) (by simp [hst]) (by simp [hst]))
  · next hst => exact h.darkFrom ht true time (by simp [hst]) (hagrees.link_none (by simp [hst, TState.isOff]) (by simp [hst]) (by simp [hst]))
  · next hst => exact h.flap ht time hst
  all_goals exact h.of_ties (State.modTally_ties ..)

/-- An entry whose light comes, from a state that no timer or record hangs on. -/
theorem State.Sound.light (h : s.Sound d k) {a : Nat} {t : Terminal} (ht : s.term? a = some t) (time : Uptime)
    (hback : t.state ≠ .restoring) (hgasped : t.state ≠ .gasped) (hlink : t.link = none) :
    (s.modTerm a fun t => (t.enter .lit).stamp time).Sound d k := by
  refine h.modTerm a fun e he => ?_
  obtain rfl := Option.some.inj (ht.symm.trans he)
  have hgasp := (h.agrees a t ht).gaspHold_none hgasped
  exact Terminal.keeps_lighted (fun _ => hlink) (.inl rfl) (by simp [Terminal.enter, Terminal.stamp, hgasp]) rfl rfl
    fun ha => ⟨ha.holdDown_none hback, ha.offSince_none hback⟩

theorem State.Sound.startHoldDown (h : s.Sound d k) {a : Nat} {t : Terminal} (ht : s.term? a = some t) (time : Uptime)
    (m : Nat) (hst : t.state.isOff = true) : (s.modTerm a fun u =>
      { (u.enter .restoring).stamp time with prior := some u.state, holdDown := some m, offSince := u.lastChange }).Sound
      d k := by
  refine h.modTerm a fun e he => ?_
  obtain rfl := Option.some.inj (ht.symm.trans he)
  have hgasp := (h.agrees a t ht).gaspHold_none (by rintro hg; simp [hg, TState.isOff] at hst)
  refine ⟨fun _ => ⟨?_, fun _ => rfl, fun _ => rfl, ?_, fun _ => hst, ?_, fun _ => .inr (.inl rfl)⟩, rfl, rfl, ?_⟩
  · simp [Terminal.enter, Terminal.stamp, hgasp]
  · simp [Terminal.enter, Terminal.stamp]
  · simp [Terminal.enter, Terminal.stamp]
  · simp [Terminal.enter, Terminal.stamp, Terminal.held, TState.isHeld]

theorem State.Sound.takeLight (h : s.Sound d k) {a : Nat} {t : Terminal} (ht : s.term? a = some t) (time : Uptime) :
    (s.takeLight a t time).Sound d k := by
  have hagrees := h.agrees a t ht
  have hlight : t.state = .unseen ∨ t.state = .heldDark ∨ t.state = .heldPower →
      (s.modTerm a fun t => (t.enter .lit).stamp time).Sound d k := by
    intro hst
    refine h.light ht time ?_ ?_ (hagrees.link_none ?_ ?_ ?_) <;>
      rcases hst with hst | hst | hst <;> simp [hst, TState.isOff]
  unfold State.takeLight
  split
  · next hst => exact hlight (.inl hst)
  · next hst => exact ((hlight (.inr (.inl hst))).of_ties (State.modTally_ties ..)).of_ties (State.offerWatch_ties ..)
  · next hst => exact ((hlight (.inr (.inr hst))).of_ties (State.modTally_ties ..)).of_ties (State.offerWatch_ties ..)
  · next hst => exact h.startHoldDown ht time _ (by simp [hst, TState.isOff])
  · next hst => exact h.startHoldDown ht time _ (by simp [hst, TState.isOff])
  all_goals exact h.of_ties (State.modTally_ties ..)

theorem State.takeUnprovisioned_ties (s : State) (floor a : Nat) (resync : Bool) (kind : EventKind) (time : Uptime) :
    (s.takeUnprovisioned floor a resync kind time).ties = s.ties := by
  unfold State.takeUnprovisioned
  split
  · dsimp only
    split <;> rfl
  · split <;> rfl

theorem State.Sound.takeEvent (h : s.Sound d k) (floor : Nat) (resync : Bool) (kind : EventKind) (port : Nat)
    (time : Uptime) : (s.takeEvent floor resync kind port time).Sound d k := by
  unfold State.takeEvent
  dsimp only
  split
  · exact h.of_ties (State.takeUnprovisioned_ties ..)
  · next t ht =>
    split
    · exact h.of_ties (State.modTally_ties ..)
    · cases kind with
      | gasp => exact h.takeGasp ht time
      | dark => exact h.takeDark ht time
      | light => exact h.takeLight ht time
      | unitGasp => exact h

end Events

/-! ## Restores and timers (R90, R91) -/

section Timers

variable {s : State} {d : Depth}

/-- An entry that a restore turns LIT (R91). -/
def Terminal.restored (e : Terminal) (now : Uptime) : Terminal :=
  { (e.enter .lit).stamp now with link := none, holdDown := none, offSince := none }

theorem State.restoreTerm_eq (s : State) (a : Nat) (t : Terminal) (path : RestorePath) : s.restoreTerm a t path =
    match t.link with
    | some x => ((s.modTerm a fun t => t.restored s.now).modFault x fun f => { f with off := f.off - 1 }).progress x
    | none => (s.modTerm a fun t => t.restored s.now).offerRestored a t path := rfl

@[simp] theorem Terminal.restored_held (e : Terminal) (now : Uptime) : (e.restored now).held = false := rfl

theorem Terminal.Agrees.restored {e : Terminal} (h : e.Agrees) (now : Uptime) (hgasped : e.state ≠ .gasped) :
    (e.restored now).Agrees := by
  refine .of_settled nofun nofun rfl ?_ rfl rfl (by simp [Terminal.restored, Terminal.enter, Terminal.stamp]) nofun
  simp [Terminal.restored, Terminal.enter, Terminal.stamp, h.gaspHold_none hgasped]

theorem State.Sound.restoreTerm (h : s.Sound d .tight) {a : Nat} {t : Terminal} (ht : s.term? a = some t)
    (path : RestorePath) (hgasped : t.state ≠ .gasped) : (s.restoreTerm a t path).Sound d .tight := by
  have hagrees := (h.agrees a t ht).restored s.now hgasped
  rw [State.restoreTerm_eq]
  split
  · next x hx =>
    exact (h.leaveFault (g := fun t => t.restored s.now) ht hx hagrees rfl (by simp) rfl).progress x
  · next hlink =>
    exact (h.changeTerm (g := fun t => t.restored s.now) ht hagrees rfl (by simp)
      fun _ => .inl hlink.symm).of_ties (State.offerRestored_ties ..)

theorem State.Sound.holdDownExpires (h : s.Sound d .tight) (a : Nat) : (s.holdDownExpires a).Sound d .tight := by
  unfold State.holdDownExpires
  split
  · exact h
  · next t ht =>
    split
    · next hdue => exact h.restoreTerm ht .holdDown (by simp [hdue.1])
    · exact h

theorem State.Sound.gaspHoldExpires {k : Slack} (h : s.Sound d k) (a : Nat) : (s.gaspHoldExpires a).Sound d k := by
  unfold State.gaspHoldExpires
  split
  · exact h
  · next t ht =>
    split
    · next hdue =>
      obtain ⟨hst, -⟩ := hdue
      refine State.Sound.of_ties (h.modTerm a fun e he => ?_) (State.offerWatch_ties ..)
      obtain rfl := Option.some.inj (ht.symm.trans he)
      exact Terminal.keeps_lighted (fun ha => ha.link_none (by simp [hst, TState.isOff]) (by simp [hst]) (by simp [hst]))
        (.inl rfl) nofun rfl rfl fun ha => ⟨ha.holdDown_none (by simp [hst]), ha.offSince_none (by simp [hst])⟩
    · exact h

end Timers

/-! ## Silence (R97, R98) -/

section Silence

variable {s : State} {d : Depth} {k : Slack}

theorem Terminal.Agrees.savedState_isOff {e : Terminal} (h : e.Agrees) (hlost : e.state ≠ .noContact)
    (hfolded : e.folded = true) : e.savedState.isOff = true := by
  rcases h.folded hfolded with hoff | hst | ⟨hst, -⟩
  · cases hst : e.state <;> simp [TState.isOff, hst] at hoff <;> simp [Terminal.savedState, hst, TState.isOff]
  · obtain ⟨p, hp⟩ : ∃ p, e.prior = some p := Option.isSome_iff_exists.mp (h.prior.mpr (.inl hst))
    have hoff := h.restoring hst
    simpa [Terminal.savedState, hst, hp] using hoff
  · exact absurd hst hlost

/-- An entry that loses contact keeps its link, and an off state before it. -/
theorem Terminal.keeps_loseContact (e : Terminal) (now : Uptime) (hlost : e.state ≠ .noContact) :
    e.Keeps (e.loseContact now) := by
  refine ⟨fun h => ⟨nofun, nofun, nofun, ?_, nofun, fun hst => absurd rfl hst, fun hfolded => ?_⟩, rfl, rfl, nofun⟩
  · simp [Terminal.loseContact, Terminal.enter, Terminal.stamp]
  · exact .inr (.inr ⟨rfl, h.savedState_isOff hlost hfolded⟩)

theorem Terminal.keeps_contact (e : Terminal) (b : Bool) : e.Keeps { e with contact := b } := .of_same rfl rfl

theorem Terminal.Keeps.trans {e u v : Terminal} (h : e.Keeps u) (g : u.Keeps v) : e.Keeps v :=
  ⟨fun ha => g.agrees (h.agrees ha), g.link.trans h.link, g.domain.trans h.domain, fun hv => h.held (g.held hv)⟩

theorem State.Sound.noContactTerm (h : s.Sound d k) (a : Nat) : (s.noContactTerm a).Sound d k := by
  refine h.modTerm a fun e _ => ?_
  dsimp only
  split
  · exact e.keeps_contact false
  · exact e.keeps_contact false
  · next hlost => exact (e.keeps_contact false).trans (Terminal.keeps_loseContact _ s.now hlost)

theorem State.Sound.noContactFloor (h : s.Sound d k) (floor : Nat) : (s.noContactFloor floor).Sound d k :=
  overKeys_keeps (f := fun a s => State.noContactTerm s a) (p := State.Sound d k) (fun a _ ht => ht.noContactTerm a) _ _ h

/-- A record that takes folds. -/
def State.TakesFolds (s : State) (x : Nat) : Prop := ∃ f, s.core? x = some f ∧ f.kind ≠ .unitLost

theorem State.TakesFolds.foldTerm {x y a : Nat} (h : s.TakesFolds x) : (s.foldTerm y a).TakesFolds x := by
  obtain ⟨f, hf, hkind⟩ := h
  rw [State.TakesFolds, State.foldTerm_eq, State.modFault_core? _ _ _ FaultRecord.core_addOff, State.modTerm_core?, hf]
  split
  · exact ⟨_, rfl, hkind⟩
  · exact ⟨_, rfl, hkind⟩

theorem State.Sound.powerFold (h : s.Sound d k) {a x : Nat} {t : Terminal} (ht : s.term? a = some t)
    (hlink : t.link = none) (hx : d.Faults → s.TakesFolds x) : (s.powerFold x a).Sound d k := by
  have hoff : (s.modTerm a fun t => { (t.enter .offPower).stamp s.now with
      gaspHold := none, holdDown := none, offSince := none }).Sound d k := by
    refine h.changeTerm ht ?_ rfl nofun fun _ => .inl rfl
    exact .of_settled nofun nofun rfl nofun rfl rfl (by simp [Terminal.enter, Terminal.stamp]) fun _ => rfl
  exact hoff.foldTerm (e := { (t.enter .offPower).stamp s.now with gaspHold := none, holdDown := none, offSince := none })
    (by rw [State.modTerm_term?, if_pos rfl, ht, Option.map_some]) (.inr rfl) hlink hx

theorem State.Sound.floorPowerTerm (h : s.Sound d k) (x a : Nat) (hx : d.Faults → s.TakesFolds x) :
    (s.floorPowerTerm x a).Sound d k := by
  have hcontact : (s.modTerm a fun t => { t with contact := false }).Sound d k :=
    h.modTerm a fun e _ => e.keeps_contact false
  have hx' : d.Faults → (s.modTerm a fun t => { t with contact := false }).TakesFolds x := hx
  unfold State.floorPowerTerm
  generalize (s.modTerm a fun t => { t with contact := false }) = s' at hcontact hx'
  dsimp only
  split
  · exact hcontact
  · next t ht =>
    have hagrees := hcontact.agrees a t ht
    split
    · next hst => exact hcontact.powerFold ht (hagrees.link_none (by simp [hst, TState.isOff]) (by simp [hst]) (by simp [hst])) hx'
    · next hst => exact hcontact.powerFold ht (hagrees.link_none (by simp [hst, TState.isOff]) (by simp [hst]) (by simp [hst])) hx'
    · next hst =>
      split
      · refine hcontact.modTerm a fun e he => ?_
        obtain rfl := Option.some.inj (ht.symm.trans he)
        exact hagrees.keeps_back hst rfl
      · next hfolded => exact hcontact.powerFold ht (by simpa [Terminal.folded] using hfolded) hx'
    · next hst =>
      refine hcontact.modTerm a fun e he => ?_
      obtain rfl := Option.some.inj (ht.symm.trans he)
      exact t.keeps_loseContact _ (by simp [hst])
    all_goals exact hcontact

theorem State.TakesFolds.floorPowerTerm {x y a : Nat} (h : s.TakesFolds x) : (s.floorPowerTerm y a).TakesFolds x := by
  unfold State.floorPowerTerm
  have h' : (s.modTerm a fun t => { t with contact := false }).TakesFolds x := h
  generalize (s.modTerm a fun t => { t with contact := false }) = s' at h'
  have hfold : (s'.powerFold y a).TakesFolds x := State.TakesFolds.foldTerm h'
  dsimp only
  split
  · exact h'
  · split
    · exact hfold
    · exact hfold
    · split
      · exact h'
      · exact hfold
    all_goals exact h'

theorem State.Sound.floorPowerFloor (h : s.Sound d k) (x floor : Nat) (hx : d.Faults → s.TakesFolds x) :
    (s.floorPowerFloor x floor).Sound d k := by
  have hrun := overKeys_keeps (f := fun a s => State.floorPowerTerm s x a)
    (p := fun t : State => t.Sound d k ∧ (d.Faults → t.TakesFolds x))
    (fun a t ht => ⟨ht.1.floorPowerTerm x a ht.2, fun hd => (ht.2 hd).floorPowerTerm⟩) (s.floorTerms floor) s ⟨h, hx⟩
  exact hrun.1

end Silence

/-! ## Baseline (R99, R100) -/

section Baseline

variable {s : State} {d : Depth}

theorem State.Sound.baselineLit (h : s.Sound d .tight) {a : Nat} {t : Terminal} (ht : s.term? a = some t) :
    (s.baselineLit a t).1.Sound d .tight := by
  have hagrees := h.agrees a t ht
  unfold State.baselineLit
  split
  · next hst =>
    exact h.light ht s.now (by simp [hst]) (by simp [hst])
      (hagrees.link_none (by simp [hst, TState.isOff]) (by simp [hst]) (by simp [hst]))
  · next hst =>
    split
    · exact h.restoreTerm ht .baseline (by simp [hst])
    · next hprior =>
      exact h.light ht s.now (by simp [hst]) (by simp [hst])
        (hagrees.link_none (by simp [hst, TState.isOff]) (by simp [hst]) fun _ => by simpa using hprior)
  · exact h

/-- An entry that a baseline takes as off, without its placing (R100). -/
theorem Terminal.Agrees.keeps_off {e u : Terminal} (h : e.Agrees) (hst : e.state = .unseen ∨ e.state = .noContact)
    (hoff : u.state.isOff = true) (hlit : u.lit = false)
    (hrest : (u.prior, u.gaspHold, u.holdDown, u.offSince, u.link, u.prov.domain) =
      (none, e.gaspHold, e.holdDown, e.offSince, e.link, e.prov.domain)) : e.Keeps u := by
  simp only [Prod.mk.injEq] at hrest
  obtain ⟨hprior, hgasp, hhold, hsince, hlink, hdomain⟩ := hrest
  have hback : e.state ≠ .restoring := by rcases hst with hst | hst <;> simp [hst]
  have hgasped : e.state ≠ .gasped := by rcases hst with hst | hst <;> simp [hst]
  rw [h.gaspHold_none hgasped] at hgasp
  rw [h.holdDown_none hback] at hhold
  rw [h.offSince_none hback] at hsince
  have hdark : u.state ≠ .restoring ∧ u.state ≠ .noContact ∧ u.held = false ∧ u.state ≠ .lit ∧ u.state ≠ .gasped := by
    cases hu : u.state <;> simp [TState.isOff, hu] at hoff <;> simp [Terminal.held, TState.isHeld, hu]
  obtain ⟨hr, hn, hh, hnl, hng⟩ := hdark
  exact ⟨fun _ => .of_settled hr hn hprior (by simp [hgasp]) hhold hsince (by simp [hlit, hnl, hng]) fun _ => hoff, hlink,
    hdomain, fun hheld => by rw [hh] at hheld; cases hheld⟩

theorem State.Sound.baselineDark (h : s.Sound d .tight) {a : Nat} {t : Terminal} (ht : s.term? a = some t) :
    (s.baselineDark a t).1.Sound d .tight := by
  have hagrees := h.agrees a t ht
  have hoff : ∀ g : Terminal → Terminal, t.state = .unseen ∨ t.state = .noContact → (g t).state.isOff = true →
      (g t).lit = false → ((g t).prior, (g t).gaspHold, (g t).holdDown, (g t).offSince, (g t).link, (g t).prov.domain) =
        (none, t.gaspHold, t.holdDown, t.offSince, t.link, t.prov.domain) → (s.modTerm a g).Sound d .tight := by
    intro g hst hgoff hlit hrest
    refine h.modTerm a fun e he => ?_
    obtain rfl := Option.some.inj (ht.symm.trans he)
    exact hagrees.keeps_off hst hgoff hlit hrest
  unfold State.baselineDark
  dsimp only
  split
  · next hst => exact hoff _ (.inl hst) rfl rfl rfl
  · next hst =>
    have hraised : ∀ gasped, (t.prior.map TState.isOff).getD false = false → (s.darkFrom a t gasped s.now).Sound d .tight :=
      fun gasped hprior => h.darkFrom ht gasped s.now (by simp [hst])
        (hagrees.link_none (by simp [hst, TState.isOff]) (by simp [hst]) fun _ => hprior)
    split
    · exact hoff _ (.inr hst) rfl rfl rfl
    · exact hoff _ (.inr hst) rfl rfl rfl
    · exact hoff _ (.inr hst) rfl rfl rfl
    · next hp => exact hraised true (by simp [hp, TState.isOff])
    · next hp => exact hraised true (by simp [hp, TState.isOff])
    · next hdark hpower _ _ =>
      refine hraised false (Bool.eq_false_iff.mpr fun hoff => ?_)
      cases hp : t.prior with
      | none => simp [hp] at hoff
      | some p =>
        rw [hp, Option.map_some, Option.getD_some, TState.isOff_eq_true] at hoff
        rcases hoff with rfl | rfl
        · exact hdark hp
        · exact hpower hp
  · exact h

theorem State.Sound.baselineTerm (h : s.Sound d .tight) (light : BitVec 16) (a : Nat) :
    (s.baselineTerm light a).1.Sound d .tight := by
  unfold State.baselineTerm
  split
  · exact h
  · next t ht =>
    split
    · exact h.baselineLit ht
    · exact h.baselineDark ht

theorem State.Sound.baselineFloor (h : s.Sound d .tight) (floor : Nat) (light : BitVec 16) :
    (s.baselineFloor floor light).Sound d .tight := by
  have hrun : ∀ (addrs : List Nat) (acc : State × BaselineCounts), acc.1.Sound d .tight →
      (addrs.foldl (fun acc a => ((acc.1.baselineTerm light a).1, acc.2.add (acc.1.baselineTerm light a).2)) acc).1.Sound d
        .tight := by
    intro addrs
    induction addrs with
    | nil => exact fun _ hacc => hacc
    | cons a addrs ih => exact fun acc hacc => ih _ (hacc.baselineTerm light a)
  exact State.Sound.of_ties (hrun _ _ (overKeys_keeps (f := fun a s => State.modTerm s a fun t => { t with contact := true })
    (p := State.Sound d .tight) (fun a t ht => ht.modTerm a fun e _ => e.keeps_contact true) _ _ h)) (State.offer_ties ..)

end Baseline

end Sys2Proof.Machine

namespace Sys2Proof.Machine

/-! ## Runs of folds and links (R95, R123, R124) -/

theorem Table.nodup_keysWhere {α : Type} {t : Table α} (hd : Table.distinct t) (p : Nat → α → Bool) :
    (Table.keysWhere t p).Nodup := List.Nodup.sublist (List.filter_sublist.map _) hd

/-- Record `x` is a top record of a kind on a subject. -/
def State.TopOn (s : State) (x : Nat) (kind : FaultKind) (i : Nat) : Prop :=
  ∃ c, s.core? x = some c ∧ c.kind = kind ∧ c.subject = i ∧ c.parent = none

theorem State.TopOn.of_cores {s t : State} {x i : Nat} {kind : FaultKind} (h : s.TopOn x kind i)
    (e : t.cores = s.cores) : t.TopOn x kind i := by
  rwa [State.TopOn, State.core?, e]

theorem State.foldTerm_core? (s : State) (x a y : Nat) :
    (s.foldTerm x a).core? y = if y = x then (s.core? y).map FaultCore.addOff else s.core? y := by
  rw [State.foldTerm_eq, State.modFault_core? _ _ _ FaultRecord.core_addOff, State.modTerm_core?]

theorem State.TopOn.foldTerm {s : State} {x i : Nat} {kind : FaultKind} (h : s.TopOn x kind i) (y a : Nat) :
    (s.foldTerm y a).TopOn x kind i := by
  obtain ⟨c, hc, hkind, hsubject, hparent⟩ := h
  rw [State.TopOn, State.foldTerm_core?, hc]
  split
  · exact ⟨_, rfl, hkind, hsubject, hparent⟩
  · exact ⟨c, rfl, hkind, hsubject, hparent⟩

theorem State.TopOn.takesFolds {s : State} {x i : Nat} {kind : FaultKind} (h : s.TopOn x kind i)
    (hkind : kind.onDomain = true) : s.TakesFolds x := by
  obtain ⟨c, hc, rfl, -, -⟩ := h
  exact ⟨c, hc, fun hu => by simp [hu, FaultKind.onDomain] at hkind⟩

/-- An entry that a fold may take: dark, and linked to no record. -/
def State.Foldable (s : State) (a : Nat) : Prop :=
  ∃ e, s.term? a = some e ∧ (e.held = true ∨ e.state.isOff = true) ∧ e.link = none

theorem State.Sound.foldRun {d : Depth} {k : Slack} {x : Nat} (keys : List Nat) {s : State} (h : s.Sound d k)
    (hx : d.Faults → s.TakesFolds x) (hnodup : keys.Nodup) (hdark : ∀ a ∈ keys, s.Foldable a) :
    (overKeys keys (fun a s => s.foldTerm x a) s).Sound d k := by
  induction keys generalizing s with
  | nil => exact h
  | cons a keys ih =>
    obtain ⟨hnew, hnodup⟩ := List.nodup_cons.mp hnodup
    obtain ⟨e, he, hst, hlink⟩ := hdark a (by simp)
    refine ih (h.foldTerm he hst hlink hx) (fun hd => (hx hd).foldTerm) hnodup fun b hb => ?_
    obtain ⟨u, hu, hust, hulink⟩ := hdark b (by simp [hb])
    have hba : b ≠ a := fun hba => hnew (hba ▸ hb)
    exact ⟨u, by rw [State.foldTerm_term?, if_neg hba, hu], hust, hulink⟩

theorem State.linkFault_core? (s : State) (c x y : Nat) : (s.linkFault c x).core? y =
    if y = x then (if y = c then (s.core? y).map (FaultCore.below (some x)) else s.core? y).map FaultCore.addChild
      else if y = c then (s.core? y).map (FaultCore.below (some x)) else s.core? y := by
  rw [State.linkFault_eq, State.modFault_core? _ _ _ FaultRecord.core_addChild,
    State.modFault_core? _ _ _ (FaultRecord.core_linkedUnder x)]

theorem State.TopOn.linkFault {s : State} {x c y i : Nat} {kind : FaultKind} (h : s.TopOn x kind i) (hne : x ≠ c) :
    (s.linkFault c y).TopOn x kind i := by
  obtain ⟨r, hr, hkind, hsubject, hparent⟩ := h
  rw [State.TopOn, State.linkFault_core?, if_neg hne, hr]
  split
  · exact ⟨_, rfl, hkind, hsubject, hparent⟩
  · exact ⟨r, rfl, hkind, hsubject, hparent⟩

/-- A run of links below one top record. -/
theorem State.Sound.linkRun {d : Depth} {x i : Nat} {kind : FaultKind} (hon : kind.onDomain = true) (keys : List Nat)
    {s : State} (h : s.Sound d .tight) (hx : d.Links → s.TopOn x kind i) (hnodup : d.Links → keys.Nodup)
    (hkeys : d.Links → ∀ c ∈ keys, ∃ kind' j, s.TopOn c kind' j ∧ kind'.onDomain = true ∧ s.rankAt j < s.rankAt i) :
    (overKeys keys (fun c s => s.linkFault c x) s).Sound d .tight := by
  induction keys generalizing s with
  | nil => exact h
  | cons c keys ih =>
    have hne : d.Links → ∀ b ∈ c :: keys, b ≠ x := by
      rintro hd b hb rfl
      obtain ⟨kind', j, ⟨r, hr, -, hj, -⟩, -, hlt⟩ := hkeys hd b hb
      obtain ⟨r', hr', -, hi, -⟩ := hx hd
      obtain rfl := Option.some.inj (hr.symm.trans hr')
      rw [← hj, hi] at hlt
      exact lt_irrefl _ hlt
    refine ih (h.linkFault fun hd => ?_) (fun hd => (hx hd).linkFault (hne hd c (by simp)).symm)
      (fun hd => (List.nodup_cons.mp (hnodup hd)).2) fun hd b hb => ?_
    · obtain ⟨kind', j, ⟨r, hr, hkind, hj, hparent⟩, hon', hlt⟩ := hkeys hd c (by simp)
      obtain ⟨g, hg, hgkind, hgi, -⟩ := hx hd
      exact ⟨by simp, by simp, r, g, hr, hg, hparent, hkind ▸ hon', hgkind ▸ hon, hj ▸ hgi ▸ hlt⟩
    · obtain ⟨kind', j, htop, hon', hlt⟩ := hkeys hd b (by simp [hb])
      have hbc : b ≠ c := fun hbc => (List.nodup_cons.mp (hnodup hd)).1 (hbc ▸ hb)
      refine ⟨kind', j, htop.linkFault hbc, hon', ?_⟩
      rw [State.rankAt_of_kept (s.linkFault_kept c x), State.rankAt_of_kept (s.linkFault_kept c x)]
      exact hlt

/-- No two domains hold the same record. -/
theorem State.FaultsTied.nodup_held {s : State} {k : Slack} (h : s.FaultsTied k) {kids : List Nat} (hd : kids.Nodup)
    (q : Nat → Bool) : ((kids.filterMap fun c => (s.windowOf c).fault?).filter q).Nodup := by
  refine List.Nodup.filter _ (List.Nodup.filterMap (fun a b x ha hb => ?_) hd)
  obtain ⟨c, hc, -, rfl⟩ := h.decided a x (Window.fault?_eq_some.mp ha)
  obtain ⟨c', hc', -, rfl⟩ := h.decided b x (Window.fault?_eq_some.mp hb)
  rw [Option.some.inj (hc.symm.trans hc')]

/-- The top records that domains of a list hold. -/
theorem State.FaultsTied.topOn_held {s : State} {k : Slack} (h : s.FaultsTied k) {kids : List Nat} {x : Nat}
    (hx : x ∈ (kids.filterMap fun c => (s.windowOf c).fault?).filter fun x =>
      ((s.fault? x).map fun f => f.parent.isNone).getD false) :
    ∃ kind, ∃ c ∈ kids, s.TopOn x kind c ∧ kind.onDomain = true := by
  simp only [List.mem_filter, List.mem_filterMap] at hx
  obtain ⟨⟨c, hc, hw⟩, htop⟩ := hx
  obtain ⟨r, hr, hkind, hsubject⟩ := h.decided c x (Window.fault?_eq_some.mp hw)
  obtain ⟨f, hf, rfl⟩ := State.core?_eq_some.mp hr
  rw [hf, Option.map_some, Option.getD_some, Option.isNone_iff_eq_none] at htop
  exact ⟨f.kind, c, hc, ⟨f.core, hr, rfl, hsubject, htop⟩, hkind⟩

theorem State.LinksTied.rankAt_child {s : State} {k : Slack} (h : s.LinksTied k) (hd : Table.distinct s.domains)
    {c p : Nat} (hc : c ∈ s.childDomains p) : s.rankAt p = s.rankAt c + 1 := by
  obtain ⟨o, ho, hp⟩ := State.mem_childDomains.mp hc
  exact h.rankAt_parent (Table.get?_of_mem hd ho) hp

/-! ## The hand-over to the parent (R125) -/

theorem State.Sound.goUp {s : State} {d : Depth} (h : s.Sound d .tight) {x i : Nat} {kind : FaultKind}
    (hon : kind.onDomain = true) (hx : d.Links → s.TopOn x kind i) : (s.goUp i x).Sound d .tight := by
  unfold State.goUp
  split
  · exact h.of_ties (State.offerOpened_ties ..)
  · next p hp =>
    split
    · next y hy =>
      refine h.linkFault fun hd => ?_
      have hl := h.links hd
      have hf := h.faults hd.faults
      obtain ⟨r, hr, hkind, hsubject, hparent⟩ := hx hd
      obtain ⟨j, hj, hrank⟩ := State.decidedFrom_some hy
      obtain ⟨g, hg, hgkind, hgsubject⟩ := hf.decided j y hj
      refine ⟨by simp, by simp, r, g, hr, hg, hparent, hkind ▸ hon, hgkind, ?_⟩
      have hup := hl.rankAt_child hf.domains ((State.parentOf_eq_some hf.domains).mp hp)
      have := hrank hl
      rw [hsubject, hgsubject]
      omega
    · exact (h.of_ties (s.modFault_ties x (f := fun f => { f with held := true }) fun _ => rfl)).touchWindow p

/-! ## The close of a window (R121 to R123) -/

/-- A held entry leaves its hold for the off state (R94). -/
theorem Terminal.keeps_leaveHold (e : Terminal) : e.Keeps e.leaveHold := by
  cases hheld : e.held with
  | false =>
    rw [Terminal.leaveHold_of_not_held hheld]
    exact .of_same rfl rfl
  | true =>
    refine ⟨fun h => ?_, ?_, ?_, fun _ => hheld⟩
    · have hlink := h.not_folded_of_held hheld
      have hst : e.state = .heldDark ∨ e.state = .heldPower := by
        cases hst : e.state <;> simp [Terminal.held, TState.isHeld, hst] at hheld <;> simp
      have hoff := h.offSince_none (by rcases hst with hst | hst <;> simp [hst])
      have hhold := h.holdDown_none (by rcases hst with hst | hst <;> simp [hst])
      have hgasp := h.gaspHold_none (by rcases hst with hst | hst <;> simp [hst])
      rcases hst with hst | hst <;> simp only [Terminal.leaveHold, hst] <;>
        exact .of_settled nofun nofun rfl (by simp [Terminal.enter, hgasp]) hhold hoff (by simp [Terminal.enter])
          (by simp [Terminal.enter, hlink])
    · unfold Terminal.leaveHold
      split <;> rfl
    · unfold Terminal.leaveHold
      split <;> rfl

theorem State.Sound.releaseTerm {s : State} {d : Depth} {k : Slack} (h : s.Sound d k) (a : Nat) :
    (s.releaseTerm a).Sound d k := (h.modTerm a fun e _ => e.keeps_leaveHold).offerTerminalOff a .window

/-- A release leaves its entry held no more, and no other entry changes. -/
theorem State.releaseTerm_held {s : State} {a b : Nat} {e : Terminal} (he : (s.releaseTerm a).term? b = some e)
    (hheld : e.held = true) : b ≠ a ∧ s.term? b = some e := by
  rw [State.releaseTerm, State.offerTerminalOff_term?, State.modTerm_term?] at he
  by_cases hb : b = a
  · rw [if_pos hb, if_pos hb, Option.map_map] at he
    obtain ⟨e₀, -, rfl⟩ := Option.map_eq_some_iff.mp he
    simp only [Function.comp_apply] at hheld
    split at hheld
    · simp at hheld
    · have hleft : e₀.leaveHold.held = true := hheld
      simp at hleft
  · rw [if_neg hb, if_neg hb] at he
    exact ⟨hb, he⟩

theorem releaseRun_held (keys : List Nat) {s : State} {b : Nat} {e : Terminal}
    (he : (overKeys keys (fun a s => s.releaseTerm a) s).term? b = some e) (hheld : e.held = true) :
    b ∉ keys ∧ s.term? b = some e := by
  induction keys generalizing s with
  | nil => exact ⟨by simp, he⟩
  | cons a keys ih =>
    obtain ⟨hmem, he⟩ := ih he
    obtain ⟨hne, he⟩ := State.releaseTerm_held he hheld
    exact ⟨by simp [hne, hmem], he⟩

/-- With its held members released, a SPLITTER stands open no more (R94, R122). -/
theorem State.Sound.releaseMembers {s : State} {d : Depth} {i : Nat} (h : s.Sound d ⟨[i], [], []⟩) :
    (overKeys (s.heldMembers i) (fun a s => s.releaseTerm a) s).Sound d .tight := by
  refine State.Sound.unloosen (overKeys_keeps (f := fun a s => State.releaseTerm s a) (p := State.Sound d ⟨[i], [], []⟩)
    (fun a t ht => ht.releaseTerm a) _ _ h) fun _ a e he hheld hi => ?_
  obtain ⟨hmem, he⟩ := releaseRun_held _ he hheld
  exact hmem ((State.mem_heldMembers h.terms he i).mpr ⟨hheld, hi⟩)

/-- With its held members folded, a SPLITTER stands open no more (R95, R123). -/
theorem State.Sound.foldMembers {s : State} {d : Depth} {i x : Nat} {U G : List Nat} (h : s.Sound d ⟨[i], U, G⟩)
    (hx : d.Faults → s.TakesFolds x) {keys : List Nat} (hnodup : keys.Nodup) (hdark : ∀ a ∈ keys, s.Foldable a)
    (hall : ∀ a e, s.term? a = some e → e.held = true → e.prov.domain = i → a ∈ keys) :
    (overKeys keys (fun a s => s.foldTerm x a) s).Sound d ⟨[], U, G⟩ := by
  refine State.Sound.unloosen (h.foldRun keys hx hnodup hdark) fun _ a e he hheld hi => ?_
  rw [foldTerms_term?] at he
  split at he
  · obtain ⟨e₀, -, rfl⟩ := Option.map_eq_some_iff.mp he
    simp at hheld
  · next hmem => exact hmem (hall a e he hheld hi)

/-- A domain that is no SPLITTER has no members (R2). -/
theorem State.LinksTied.no_member {s : State} {k : Slack} (h : s.LinksTied k) {i : Nat}
    (hi : s.levelAt i ≠ some .splitter) {a : Nat} {e : Terminal} (he : s.term? a = some e) : e.prov.domain ≠ i :=
  fun hd => hi (hd ▸ h.members a e he)

theorem State.foldMembers_foldable {s : State} (hd : Table.distinct s.terms) (hagrees : ∀ a e, s.term? a = some e → e.Agrees)
    {i a : Nat} (ha : a ∈ s.foldMembers i) : s.Foldable a := by
  simp only [State.foldMembers, State.members, Table.mem_keysWhere, Bool.and_eq_true, Bool.or_eq_true,
    decide_eq_true_eq, Bool.not_eq_true'] at ha
  obtain ⟨e, he, -, hdark⟩ := ha
  have he := Table.get?_of_mem hd he
  refine ⟨e, he, ?_⟩
  rcases hdark with hheld | ⟨hoff, hfolded⟩
  · exact ⟨.inl hheld, (hagrees a e he).not_folded_of_held hheld⟩
  · exact ⟨.inr hoff, by simpa [Terminal.folded] using hfolded⟩

theorem State.nodup_foldMembers (s : State) (hd : Table.distinct s.terms) (i : Nat) : (s.foldMembers i).Nodup := by
  unfold State.foldMembers State.members
  exact Table.nodup_keysWhere hd _

theorem State.Sound.faultOutcome {s : State} {d : Depth} {i x : Nat} {level : Level} {kind : FaultKind}
    (h : s.Sound d ⟨[i], [], []⟩) (hon : kind.onDomain = true) (hx : d.Faults → s.TopOn x kind i)
    (hlevel : s.levelAt i = some level) : (s.faultOutcome i level x).Sound d .tight := by
  have hkids : level ≠ .splitter →
      ((overKeys (s.linkChildren i) (fun c s => s.linkFault c x) s).goUp i x).Sound d .tight := by
    intro hne
    have htight : s.Sound d .tight := h.unloosen fun hd a e he _ =>
      (h.links hd).no_member (by rw [hlevel]; simpa using hne) he
    have hfacts : d.Links → ∀ c ∈ s.linkChildren i, ∃ kind' j, s.TopOn c kind' j ∧ kind'.onDomain = true ∧
        s.rankAt j < s.rankAt i := by
      intro hd c hc
      obtain ⟨kind', j, hj, htop, hon'⟩ := (h.faults hd.faults).topOn_held hc
      have hchild : j ∈ s.childDomains i := (List.mem_filter.mp hj).1
      have hup := (h.links hd).rankAt_child (h.faults hd.faults).domains hchild
      exact ⟨kind', j, htop, hon', by omega⟩
    refine State.Sound.goUp (htight.linkRun hon _ (fun hd => hx hd.faults) (fun hd => ?_) hfacts) hon fun hd => ?_
    · exact (h.faults hd.faults).nodup_held
        (List.Nodup.filter _ (Table.nodup_keysWhere (h.faults hd.faults).domains _)) _
    · refine overKeys_keeps_mem (f := fun c s => State.linkFault s c x) (p := fun t : State => t.TopOn x kind i)
        (fun c hc t ht => ht.linkFault ?_) _ (hx hd.faults)
      rintro rfl
      obtain ⟨kind', j, ⟨r, hr, -, hj, -⟩, -, hlt⟩ := hfacts hd x hc
      obtain ⟨r', hr', -, hi, -⟩ := hx hd.faults
      obtain rfl := Option.some.inj (hr.symm.trans hr')
      rw [← hj, hi] at hlt
      exact lt_irrefl _ hlt
  unfold State.faultOutcome
  split
  · refine State.Sound.goUp (h.foldMembers (keys := s.foldMembers i) (fun hd => (hx hd).takesFolds hon) (s.nodup_foldMembers h.terms i)
      (fun a ha => State.foldMembers_foldable h.terms h.agrees ha) fun a e he hheld hi => ?_) hon fun hd =>
      overKeys_keeps (f := fun a s => State.foldTerm s x a) (p := fun t : State => t.TopOn x kind i)
        (fun a t ht => ht.foldTerm x a) _ _ (hx hd.faults)
    simp only [State.foldMembers, State.members, Table.mem_keysWhere, Bool.and_eq_true, Bool.or_eq_true, decide_eq_true_eq]
    exact ⟨e, Table.mem_of_get? he, hi, .inl hheld⟩
  · exact hkids (by simp)
  · exact hkids (by simp)

theorem State.Sound.individualOutcome {s : State} {d : Depth} {i : Nat} {level : Level} (h : s.Sound d ⟨[i], [], []⟩)
    (hlevel : s.levelAt i = some level) : (s.individualOutcome i level).Sound d .tight := by
  have hkids : level ≠ .splitter → (overKeys (s.heldChildren i) (fun x s => s.offerOpened x true) s).Sound d .tight :=
    fun hne => (overKeys_keeps (f := fun x s => State.offerOpened s x true) (p := State.Sound d .tight)
      (fun x t ht => ht.of_ties (t.offerOpened_ties x true)) _ _ <| h.unloosen fun hd a e he _ =>
        (h.links hd).no_member (by rw [hlevel]; simpa using hne) he)
  unfold State.individualOutcome
  split
  · exact h.releaseMembers
  · exact hkids (by simp)
  · exact hkids (by simp)

theorem State.TopOn.of_opened {s : State} {kind : FaultKind} {i x : Nat} (h : (s.openFault kind i).2 = some x) :
    (s.openFault kind i).1.TopOn x kind i := by
  obtain ⟨-, -, hcore, -, -⟩ := State.openFault_opened h
  exact ⟨_, hcore, rfl, rfl, rfl⟩

theorem Decision.faultKind_onDomain {dec : Decision} {kind : FaultKind} (h : dec.faultKind = some kind) :
    kind.onDomain = true := by
  cases dec <;> cases h <;> rfl

theorem State.closeRequest_onDomain {s : State} {i : Nat} {level : Level} {dec : Decision} {kind : FaultKind}
    (h : s.closeRequest i level dec = some kind) : kind.onDomain = true := by
  unfold State.closeRequest at h
  split at h
  · split at h
    · exact Decision.faultKind_onDomain h
    · cases h
  · exact Decision.faultKind_onDomain h
  · exact Decision.faultKind_onDomain h

/-- What a close makes of the state, from the QUIET domain and the record that it asks for (R121). -/
theorem State.Sound.closeOutcome {s : State} {d : Depth} {i : Nat} {level : Level} {kind : Option FaultKind}
    (h : s.Sound d ⟨[i], [], []⟩) (hlevel : s.levelAt i = some level) (hquiet : s.windowOf i = .quiet)
    (hon : ∀ k, kind = some k → k.onDomain = true) :
    (match (s.recordDecision i kind).2 with
      | some x => (s.recordDecision i kind).1.faultOutcome i level x
      | none => (s.recordDecision i kind).1.individualOutcome i level).Sound d .tight := by
  cases kind with
  | none => exact h.individualOutcome hlevel
  | some k =>
    have hopened : (s.openFault k i).1.Sound d ⟨[i], [], []⟩ := h.openFault k i fun _ _ =>
      ⟨by obtain ⟨o, ho, -⟩ := Option.map_eq_some_iff.mp hlevel; simp [ho], by simp [hquiet], fun _ _ _ _ _ => by simp⟩
    have hlevel' : (s.openFault k i).1.levelAt i = some level := by
      rw [State.levelAt_of_kept (s.openFault_kept k i), hlevel]
    simp only [State.recordDecision]
    split
    · next x hx => exact hopened.faultOutcome (hon k rfl) (fun _ => .of_opened hx) hlevel'
    · exact hopened.individualOutcome hlevel'

theorem State.Sound.closeWindow {s t : State} {d : Depth} {i : Nat} {r : CloseReport} (h : s.Sound d .tight)
    (ht : s.closeWindow i = some (t, r)) : t.Sound d .tight := by
  unfold State.closeWindow at ht
  split at ht
  · cases ht
  · next o ho =>
    split at ht
    · cases ht
    · cases ht
    · next start stop cap hw =>
      have hwindow := (State.windowOf_of_domain? ho).trans hw
      have hquiet : (s.modDomain i fun o => { o with window := .quiet }).Sound d ⟨[i], [], []⟩ :=
        (h.loosen i).modWindow (fun _ => rfl) (by simp [hwindow]) nofun fun _ => .inl (by simp)
      have hlevel : (s.modDomain i fun o => { o with window := .quiet }).levelAt i = some o.fields.level := by
        rw [State.levelAt_of_kept (State.modDomain_kept s i (fun o => { o with window := .quiet }) fun _ => rfl), State.levelAt, ho, Option.map_some]
      have hwindow' : (s.modDomain i fun o => { o with window := .quiet }).windowOf i = .quiet := by
        rw [State.modDomain_windowOf, if_pos rfl, ho, Option.map_some, Option.getD_some]
      generalize (s.modDomain i fun o => { o with window := .quiet }) = s0 at ht hquiet hlevel hwindow'
      have hout := fun dec => hquiet.closeOutcome (kind := s0.closeRequest i o.fields.level dec) hlevel hwindow'
        fun _ => State.closeRequest_onDomain
      dsimp only at ht
      split at ht <;> next hrec =>
        cases ht
        have := hout (s0.decideClose o.fields (s0.figures i o.fields.level).1 (s0.figures i o.fields.level).2.1
          (s0.figures i o.fields.level).2.2).1
        rw [hrec] at this
        exact this

/-! ## The loss of a feeder (R128) -/

theorem State.dropWindow_decided (s : State) (i j x : Nat) :
    (s.dropWindow i).windowOf j = .decided x ↔ s.windowOf j = .decided x := by
  rw [State.dropWindow_windowOf]
  split
  · next hj =>
    refine iff_of_false nofun fun hw => ?_
    rw [hw] at hj
    cases hj.2
  · exact Iff.rfl

theorem State.Sound.dropWindow {s : State} {d : Depth} {k : Slack} (h : s.Sound d k) (i : Nat)
    (hheld : d.Links → i ∈ k.loose ∨ ∀ a e, s.term? a = some e → e.held = true → e.prov.domain ≠ i) :
    (s.dropWindow i).Sound d k := by
  refine h.changeWindows (s.dropWindow_kept i) rfl rfl (fun _ j x => s.dropWindow_decided i j x) fun hd j => ?_
  by_cases hj : j = i
  · subst hj
    exact (hheld hd).imp_right .inr
  · refine .inr (.inl fun hopen => ?_)
    rw [State.dropWindow_windowOf, if_neg fun hboth => hj hboth.1]
    exact hopen

theorem State.heldMembers_foldable {s : State} (hd : Table.distinct s.terms)
    (hagrees : ∀ a e, s.term? a = some e → e.Agrees) {i a : Nat} (ha : a ∈ s.heldMembers i) : s.Foldable a := by
  simp only [State.heldMembers, State.members, Table.mem_keysWhere, Bool.and_eq_true] at ha
  obtain ⟨e, he, -, hheld⟩ := ha
  have he := Table.get?_of_mem hd he
  exact ⟨e, he, .inl hheld, (hagrees a e he).not_folded_of_held hheld⟩

theorem State.nodup_heldMembers (s : State) (hd : Table.distinct s.terms) (i : Nat) : (s.heldMembers i).Nodup := by
  unfold State.heldMembers State.members
  exact Table.nodup_keysWhere hd _

theorem State.Sound.loseSplitter {s : State} {d : Depth} (h : s.Sound d .tight) {y : Nat}
    (hy : d.Faults → s.TakesFolds y) (i : Nat) : (s.loseSplitter y i).Sound d .tight := by
  unfold State.loseSplitter
  split
  · exact ((h.loosen i).dropWindow i fun _ => .inl (by simp)).foldMembers hy (s.nodup_heldMembers h.terms i)
      (fun a ha => State.heldMembers_foldable h.terms h.agrees ha)
      fun a e he hheld hi => (State.mem_heldMembers h.terms he i).mpr ⟨hheld, hi⟩
  · exact h

theorem State.TopOn.loseSplitter {s : State} {x i : Nat} {kind : FaultKind} (h : s.TopOn x kind i) (y c : Nat) :
    (s.loseSplitter y c).TopOn x kind i := by
  unfold State.loseSplitter
  split
  · exact overKeys_keeps (f := fun a s => State.foldTerm s y a) (p := fun t : State => t.TopOn x kind i)
      (fun a t ht => ht.foldTerm y a) _ _ (h.of_cores rfl)
  · exact h

/-- A sound state with a top record that folds go into. -/
theorem State.Sound.loseSegment {s : State} {d : Depth} (h : s.Sound d .tight) {y i : Nat} {kind : FaultKind}
    (hon : kind.onDomain = true) (hy : d.Faults → s.TopOn y kind i) (c : Nat)
    (hc : d.Links → s.levelAt c ≠ some .splitter) :
    (s.loseSegment y c).Sound d .tight ∧ (d.Faults → (s.loseSegment y c).TopOn y kind i) :=
  overKeys_keeps (f := fun c s => State.loseSplitter s y c)
    (p := fun t : State => t.Sound d .tight ∧ (d.Faults → t.TopOn y kind i))
    (fun c _ ht => ⟨ht.1.loseSplitter (fun hd => (ht.2 hd).takesFolds hon) c, fun hd => (ht.2 hd).loseSplitter y c⟩) _ _
    ⟨h.dropWindow c fun hd => .inr fun _ _ he _ => (h.links hd).no_member (hc hd) he, fun hd => (hy hd).of_cores rfl⟩

/-- A child of a FEEDER is no SPLITTER (R16). -/
theorem State.LinksTied.levelAt_child {s : State} {k : Slack} (h : s.LinksTied k) (hd : Table.distinct s.domains)
    {c p : Nat} (hp : s.levelAt p = some .feeder) (hc : c ∈ s.childDomains p) : s.levelAt c ≠ some .splitter := by
  obtain ⟨o, ho, hpar⟩ := State.mem_childDomains.mp hc
  have hget : s.domain? c = some o := Table.get?_of_mem hd ho
  obtain ⟨hup, -⟩ := h.parents c o p hget hpar
  rw [State.levelAt, hget, Option.map_some]
  intro hlevel
  rw [Option.some.inj hlevel, hp] at hup
  cases hup

theorem State.LinksTied.rankAt_descendant {s : State} {k : Slack} (h : s.LinksTied k) (hd : Table.distinct s.domains)
    {c p : Nat} (hc : c ∈ s.descendants p) : s.rankAt c < s.rankAt p := by
  rw [State.mem_descendants hd] at hc
  simp only [List.mem_flatMap, List.mem_cons] at hc
  obtain ⟨q, hq, hc⟩ := hc
  have hup := h.rankAt_child hd hq
  rcases hc with rfl | hc
  · omega
  · have := h.rankAt_child hd hc
    omega

theorem State.windowOf_not_decided {s : State} {i : Nat} (h : s.holdsFault i = false) (x : Nat) :
    s.windowOf i ≠ .decided x := fun hw => by simp [State.holdsFault, hw, Window.fault?] at h

theorem State.Sound.linkLoose {s : State} {d : Depth} (h : s.Sound d .tight) {y i : Nat} {kind : FaultKind}
    (hon : kind.onDomain = true) (hy : d.Links → s.TopOn y kind i) :
    (overKeys (s.looseBelow i) (fun x s => s.linkFault x y) s).Sound d .tight := by
  refine h.linkRun hon _ hy (fun hd => ?_) fun hd x hx => ?_
  · exact (h.faults hd.faults).nodup_held (Table.nodup_keysWhere (h.faults hd.faults).domains _) _
  · obtain ⟨kind', c, hc, htop, hon'⟩ := (h.faults hd.faults).topOn_held hx
    exact ⟨kind', c, htop, hon', (h.links hd).rankAt_descendant (h.faults hd.faults).domains hc⟩

theorem State.Sound.feederLoss {s : State} {d : Depth} (h : s.Sound d .tight) {i : Nat}
    (hlevel : d.Links → s.levelAt i = some .feeder) : (s.feederLoss i).Sound d .tight := by
  unfold State.feederLoss
  split
  · exact h.of_ties (State.returnToOpen_ties ..)
  · split
    · exact h
    · next hholds =>
      have hopened : (s.openFault .feederLoss i).1.Sound d .tight := h.openFault .feederLoss i fun hd _ => by
        have hl := hlevel hd
        obtain ⟨o, ho, -⟩ := Option.map_eq_some_iff.mp hl
        refine ⟨by simp [ho], State.windowOf_not_decided (by simpa using hholds), fun a e he _ hi => absurd hi ?_⟩
        exact (h.links hd).no_member (by simp [hl]) he
      have hkept := s.openFault_kept .feederLoss i
      have hlevel' : d.Links → (s.openFault .feederLoss i).1.levelAt i = some .feeder := fun hd =>
        (State.levelAt_of_kept hkept i).trans (hlevel hd)
      dsimp only
      split
      · exact hopened
      · next y hy =>
        have htop := State.TopOn.of_opened hy
        generalize (s.openFault .feederLoss i).1 = s1 at hopened hlevel' htop
        have hrun := overKeys_keeps_mem (f := fun c s => State.loseSegment s y c) (keys := s1.childDomains i)
          (p := fun t : State => (t.Sound d .tight ∧ (d.Faults → t.TopOn y .feederLoss i)) ∧ t.kept = s1.kept)
          (fun c hc t ht => ⟨ht.1.1.loseSegment rfl ht.1.2 c fun hd => ?_, (t.loseSegment_kept y c).trans ht.2⟩) s1
          ⟨⟨hopened, fun _ => htop⟩, rfl⟩
        · exact (hrun.1.1.linkLoose rfl fun hd => hrun.1.2 hd.faults).of_ties (State.offerOpened_ties ..)
        · rw [State.levelAt_of_kept ht.2]
          exact (hopened.links hd).levelAt_child (hopened.faults hd.faults).domains (hlevel' hd) hc

theorem State.Sound.feederTold {s : State} {d : Depth} (h : s.Sound d .tight) (dom : Option Nat)
    (before after : LevelState) (hlevel : d.Links → ∀ i, dom = some i → s.levelAt i = some .feeder) :
    (s.feederTold dom before after).Sound d .tight := by
  unfold State.feederTold
  split
  · exact h
  · next i =>
    split
    · exact h.feederLoss fun hd => hlevel hd i rfl
    · split
      · split
        · exact h
        · exact h.causeGone _
      · exact h

/-- The domain that a channel is bound to is a FEEDER (R16). -/
theorem State.LinksTied.levelAt_channel {s : State} {k : Slack} (h : s.LinksTied k) (hd : Table.distinct s.domains)
    {c i : Nat} (hi : s.channelDomain c = some i) : s.levelAt i = some .feeder := by
  obtain ⟨o, ho, hc⟩ := Table.mem_keysWhere.mp (List.mem_of_mem_head? (by simpa [State.channelDomain] using hi))
  have hget : s.domain? i = some o := Table.get?_of_mem hd ho
  rw [State.levelAt, hget, Option.map_some]
  simp only [decide_eq_true_eq] at hc
  rw [h.channels i o hget (by simp [hc])]

theorem State.Sound.feederSample {s : State} {d : Depth} (h : s.Sound d .tight) (channel : Nat) (code : BitVec 12) :
    (s.feederSample channel code).Sound d .tight := by
  have hties : ∀ (subject : PowerSubject) (dom : Option Nat) (before after : Point) (t : State),
      (t.offerPower subject dom before after).ties = t.ties := by
    intro subject dom before after t
    unfold State.offerPower
    split <;> rfl
  unfold State.feederSample
  dsimp only
  have hfed : ∀ F : Table Feeder, ({ s with feeders := F } : State).ties = s.ties := fun _ => rfl
  refine State.Sound.feederTold (h.of_ties ((hties ..).trans (hfed _))) _ _ _ fun hd i hi => ?_
  rw [State.levelAt_of_ties ((hties ..).trans (hfed _))]
  exact (h.links hd).levelAt_channel (h.faults hd.faults).domains hi

/-! ## Silence and return of a floor unit (R42, R44) -/

theorem State.mem_faultOn {s : State} {kind : FaultKind} {i x : Nat} (h : s.faultOn kind i = some x) :
    ∃ f, (x, f) ∈ s.faults ∧ f.kind = kind ∧ f.subject = i := by
  obtain ⟨f, hf, hon⟩ := Table.mem_keysWhere.mp (List.mem_of_mem_head? h)
  simp only [Bool.and_eq_true, decide_eq_true_eq] at hon
  exact ⟨f, hf, hon⟩

theorem State.FaultsTied.faultOn {s : State} {k : Slack} (h : s.FaultsTied k) {kind : FaultKind} {i x : Nat}
    (hx : s.faultOn kind i = some x) : ∃ f, s.fault? x = some f ∧ f.kind = kind ∧ f.subject = i := by
  obtain ⟨f, hf, hkind⟩ := State.mem_faultOn hx
  exact ⟨f, Table.get?_of_mem h.distinct_faults hf, hkind⟩

theorem State.Sound.silenceOutcome {s : State} {d : Depth} (h : s.Sound d .tight) (floor : Nat) (afterGasp : Bool) :
    (s.silenceOutcome floor afterGasp).Sound d .tight := by
  unfold State.silenceOutcome
  split
  · next x hx =>
    refine (h.of_ties (State.returnToOpen_ties ..)).floorPowerFloor x floor fun hd => ?_
    obtain ⟨f, hf, hkind, -⟩ := (h.faults hd).faultOn hx
    exact ⟨f.core, (State.core?_of_ties (s.returnToOpen_ties x) x).trans (State.core?_of_fault? hf), by simp [hkind]⟩
  · have hopened : (s.openFault .floorPower floor).1.Sound d .tight := h.openFault .floorPower floor nofun
    dsimp only
    split
    · next x hx =>
      refine (hopened.floorPowerFloor x floor fun _ => ?_).of_ties (State.offerOpened_ties ..)
      obtain ⟨c, hc, hkind, -, -⟩ := State.TopOn.of_opened hx
      exact ⟨c, hc, by simp [hkind]⟩
    · exact hopened.noContactFloor floor
  · exact h.noContactFloor floor
  · split
    · exact h.noContactFloor floor
    · have hopened : (s.openFault .unitLost floor).1.Sound d .tight := h.openFault .unitLost floor nofun
      dsimp only
      split
      · exact (hopened.noContactFloor floor).of_ties (State.offerOpened_ties ..)
      · exact hopened.noContactFloor floor

/-- A UNIT_LOST record is linked to nothing, so it goes when its unit returns (R42, R130). -/
theorem State.Sound.removeUnitLost {s : State} {d : Depth} (h : s.Sound d .tight) {x : Nat}
    (hx : d.Faults → ∃ c, s.core? x = some c ∧ c.kind = .unitLost) : (s.removeFault x).Sound d .tight := by
  refine State.Sound.removeFault (h.leaveTop fun hd => ?_) fun hd => ?_
  · obtain ⟨c, hc, hkind⟩ := hx hd.faults
    refine ⟨by simp, ?_, c, hc, ?_⟩
    · rw [Slack.tight_leaving, State.childCount_nil_eq_zero (h.faults hd.faults).ids]
      intro y r hr hp
      obtain ⟨-, g, hg, -, hgkind, -⟩ := (h.links hd).parent y r x hr (by simp) hp
      obtain rfl := Option.some.inj (hc.symm.trans hg)
      simp [hkind, FaultKind.onDomain] at hgkind
    · cases hp : c.parent with
      | none => rfl
      | some p =>
        obtain ⟨-, g, -, hon, -⟩ := (h.links hd).parent x _ p hc (by simp) hp
        simp [hkind, FaultKind.onDomain] at hon
  · obtain ⟨c, hc, hkind⟩ := hx hd
    rw [State.linkCount_eq_zero h.terms]
    intro a e he hlink
    obtain ⟨r, hr, hne⟩ := (h.faults hd).linked a e x he hlink
    obtain rfl := Option.some.inj (hc.symm.trans hr)
    exact hne hkind

theorem State.Sound.contactGood {s : State} {d : Depth} (h : s.Sound d .tight) (floor : Nat) (u : FloorUnit) :
    (s.contactGood floor u).Sound d .tight := by
  unfold State.contactGood
  split
  · exact h.of_ties (State.modUnit_ties ..)
  · exact h.of_ties (State.modUnit_ties ..)
  · have hunit : (s.modUnit floor fun u => { u with contact := .active, misses := 0, gaspTime := none }).Sound d .tight :=
      h.of_ties (State.modUnit_ties ..)
    dsimp only
    split
    · exact hunit
    · exact hunit.causeGone _
  · have hunit : (s.modUnit floor fun u => { u with contact := .present, misses := 0 }).Sound d .tight :=
      h.of_ties (State.modUnit_ties ..)
    dsimp only
    split
    · exact hunit
    · next x hx =>
      refine (hunit.of_ties (State.offerClosed_ties ..)).removeUnitLost fun hd => ?_
      obtain ⟨f, hf, hkind, -⟩ := (hunit.faults hd).faultOn hx
      exact ⟨f.core, (State.core?_of_ties (State.offerClosed_ties ..) x).trans (State.core?_of_fault? hf), hkind⟩

end Sys2Proof.Machine

namespace Sys2Proof.Machine

/-! ## Checks in order (R3, R17) -/

/-- Checks that all pass. -/
theorem firstFailure_eq_none {checks : List (Bool × Status)} :
    firstFailure checks = none ↔ ∀ c ∈ checks, c.1 = true := by
  induction checks with
  | nil => simp [firstFailure]
  | cons c checks ih =>
    obtain ⟨passes, st⟩ := c
    cases passes <;> simp [firstFailure, ih]

/-- A request with checks changes nothing, or has passed them all. -/
theorem State.Sound.checked {s : State} {d : Depth} {k : Slack} (h : s.Sound d k) {checks : List (Bool × Status)}
    {run : State → State × Reply} (hrun : (∀ c ∈ checks, c.1 = true) → (run s).1.Sound d k) :
    (s.checked checks run).1.Sound d k := by
  unfold State.checked
  split
  · exact h
  · next hnone => exact hrun (firstFailure_eq_none.mp hnone)

/-! ## Terminals written and removed (R4 to R6) -/

theorem Table.distinct_put {α : Type} {t : Table α} (hd : Table.distinct t) {k : Nat} (hk : Table.get? t k = none) (v : α) :
    Table.distinct (Table.put t k v) := by
  induction t with
  | nil => exact List.nodup_singleton k
  | cons e t ih =>
    obtain ⟨a, b⟩ := e
    obtain ⟨hnew, hd⟩ := List.nodup_cons.mp hd
    rw [Table.get?_eq_none_iff] at hk
    have hka : k ≠ a := fun h => hk (by simp [h])
    have hkt : k ∉ t.map Prod.fst := fun h => hk (by simp [h])
    simp only [Table.put, hka, if_false]
    split
    · exact List.nodup_cons.mpr ⟨hk, List.nodup_cons.mpr ⟨hnew, hd⟩⟩
    · refine List.nodup_cons.mpr ⟨?_, ih hd (Table.get?_eq_none_iff.mpr hkt)⟩
      rw [Table.mem_keys_put]
      rintro (h | h)
      · exact hka h.symm
      · exact hnew h

theorem newTerminal_agrees (p : Provisioned) : (newTerminal p).Agrees :=
  .of_settled nofun nofun rfl nofun rfl rfl (by simp [newTerminal]) nofun

section Terminals

variable {s : State} {d : Depth}

/-- A new entry of a SPLITTER: UNSEEN, and linked to nothing. -/
theorem State.Sound.createTerm (h : s.Sound d .tight) {a : Nat} (ha : s.term? a = none) (p : Provisioned)
    (hroom : s.terms.length < 512) (hlevel : s.levelAt p.domain = some .splitter) :
    (s.createTerm a p).Sound d .tight := by
  have hterm : ∀ b e, (s.createTerm a p).term? b = some e → e = newTerminal p ∨ s.term? b = some e := by
    intro b e he
    have he : (if b = a then some (newTerminal p) else s.term? b) = some e := (Table.get?_put ..).symm.trans he
    split at he
    · exact .inl (Option.some.inj he).symm
    · exact .inr he
  refine ⟨Table.distinct_put h.terms ha _, fun b e he => ?_, fun hd => ?_, fun hd => ?_⟩
  · obtain rfl | he := hterm b e he
    · exact newTerminal_agrees p
    · exact h.agrees b e he
  · have hf := h.faults hd
    refine ⟨hf.rising, ?_, hf.ids, fun x f hx hmem => ?_, fun b e x he hx => ?_, hf.decided⟩
    · have hlength := Table.countWhere_put ha (newTerminal p) fun _ _ => true
      have hall : ∀ t : Table Terminal, Table.countWhere t (fun _ _ => true) = t.length := fun t => by
        simp [Table.countWhere]
      rw [hall, hall, if_pos rfl] at hlength
      exact hlength.trans_le hroom
    · have hcount := Table.countWhere_put ha (newTerminal p) fun _ t => decide (t.link = some x)
      simp only [newTerminal, decide_eq_true_eq, if_false, reduceCtorEq] at hcount
      exact (hf.off x f hx hmem).trans hcount.symm
    · obtain rfl | he := hterm b e he
      · cases hx
      · exact hf.linked b e x he hx
  · have hl := h.links hd
    refine ⟨fun b e he => ?_, hl.parents, hl.channels, hl.subject, hl.count, hl.parent, fun b e he hheld hmem => ?_⟩
    · obtain rfl | he := hterm b e he
      · exact hlevel
      · exact hl.members b e he
    · obtain rfl | he := hterm b e he
      · cases hheld
      · exact hl.held b e he hheld hmem

/-- An entry that is neither held nor folded is removed. -/
theorem State.Sound.eraseTerm (h : s.Sound d .tight) {a : Nat} {e : Terminal} (ha : s.term? a = some e)
    (hlink : e.link = none) (latch : List Nat) :
    ({ s with terms := Table.erase s.terms a, latch := latch } : State).Sound d .tight := by
  have hterm : ∀ b u, Table.get? (Table.erase s.terms a) b = some u → s.term? b = some u := by
    intro b u hu
    rw [Table.get?_erase] at hu
    split at hu
    · cases hu
    · exact hu
  refine ⟨Table.distinct_erase h.terms a, fun b u hu => h.agrees b u (hterm b u hu), fun hd => ?_, fun hd => ?_⟩
  · have hf := h.faults hd
    refine ⟨hf.rising, (Table.length_erase_le ..).trans hf.room, hf.ids, fun x f hx hmem => ?_,
      fun b u x hu hx => hf.linked b u x (hterm b u hu) hx, hf.decided⟩
    have hcount := Table.countWhere_erase h.terms ha fun _ t => decide (t.link = some x)
    rw [hlink] at hcount
    simp only [decide_eq_true_eq, if_false, reduceCtorEq] at hcount
    exact (hf.off x f hx hmem).trans hcount.symm
  · have hl := h.links hd
    exact ⟨fun b u hu => hl.members b u (hterm b u hu), hl.parents, hl.channels, hl.subject, hl.count, hl.parent,
      fun b u hu hheld hmem => hl.held b u (hterm b u hu) hheld hmem⟩

theorem State.Sound.setMasked {k : Slack} (h : s.Sound d k) (a : Nat) (v : Bool) : (s.setMasked a v).Sound d k := by
  unfold State.setMasked
  split
  · exact h
  · split
    · exact h
    · have hmasked : (s.modTerm a fun t => { t with prov := { t.prov with masked := v } }).Sound d k :=
        h.modTerm a fun _ _ => .of_same rfl rfl
      dsimp only
      split
      · exact hmasked.offerTerminalOff a .unmasked
      · exact hmasked

theorem State.Sound.setWatch {k : Slack} (h : s.Sound d k) (a : Nat) (v : Bool) : (s.setWatch a v).Sound d k :=
  h.modTerm a fun _ _ => .of_same rfl rfl

theorem State.Sound.rewriteTerm {k : Slack} (h : s.Sound d k) {a : Nat} {e : Terminal} (ha : s.term? a = some e)
    (p : Provisioned) (hlevel : s.levelAt p.domain = some .splitter)
    (hstay : e.held = true → p.domain = e.prov.domain) : (s.rewriteTerm a p).Sound d k := by
  refine State.Sound.setWatch (State.Sound.setMasked (h.replaceTerm ha ?_ (fun _ => hlevel)
    (fun _ hheld => .inl ⟨hstay hheld, hheld⟩) fun _ => .inl rfl) a p.masked) a p.watch
  exact (h.agrees a e ha).of_same rfl

theorem State.Sound.terminalWrite (h : s.Sound d .tight) (a dom : Nat) (offClass : Byte) (notify : Bool)
    (label : Word16) (masked watch : Bool) :
    (s.terminalWrite a dom offClass notify label masked watch).1.Sound d .tight := by
  refine h.checked fun hchecks => ?_
  simp only [State.terminalWriteChecks, List.forall_mem_cons, Bool.not_eq_true', Bool.and_eq_false_imp,
    decide_eq_true_eq, Bool.or_eq_true] at hchecks
  obtain ⟨-, -, -, hlevel, hpinned, -, hroom, -⟩ := hchecks
  have hlevel : s.levelAt dom = some .splitter := hlevel
  dsimp only
  cases ha : s.term? a with
  | none =>
    have hroom : s.terms.length < 512 := by simpa [ha] using hroom
    exact h.createTerm ha _ hroom hlevel
  | some e =>
    refine h.rewriteTerm ha _ hlevel fun hheld => ?_
    by_contra hne
    have hmoves : e.prov.domain ≠ dom := fun heq => hne heq.symm
    simp [ha, hheld, hmoves] at hpinned

theorem State.Sound.terminalRemove (h : s.Sound d .tight) (a : Nat) : (s.terminalRemove a).1.Sound d .tight := by
  refine h.checked fun hchecks => ?_
  simp only [List.forall_mem_cons, Bool.not_eq_true'] at hchecks
  obtain ⟨-, hsome, hpinned, -⟩ := hchecks
  obtain ⟨e, he⟩ := Option.isSome_iff_exists.mp hsome
  simp only [he, Bool.or_eq_false_iff] at hpinned
  obtain ⟨-, hfolded⟩ := hpinned
  exact h.eraseTerm he (by simpa [Terminal.folded] using hfolded) _

end Terminals

/-! ## Domains written and removed (R17 to R19) -/

section Domains

variable {s : State} {d : Depth}

theorem State.no_member_of_memberCount {s : State} {i : Nat} (h : s.memberCount i = 0) {a : Nat} {e : Terminal}
    (ha : s.term? a = some e) : e.prov.domain ≠ i := by
  have hno := Table.countWhere_eq_zero.mp h a e (Table.mem_of_get? ha)
  simpa using hno

theorem State.no_child_of_isEmpty {s : State} {i : Nat} (h : (s.childDomains i).isEmpty = true) {j : Nat} {o : Domain}
    (ho : s.domain? j = some o) : o.fields.parent ≠ some i := fun hp => by
  have hmem : j ∈ s.childDomains i := State.mem_childDomains.mpr ⟨o, Table.mem_of_get? ho, hp⟩
  rw [List.isEmpty_iff.mp h] at hmem
  cases hmem

theorem Window.isQuiet_iff {w : Window} : w.isQuiet = true ↔ w = .quiet := by
  cases w <;> simp [Window.isQuiet]

/-- A change of domain records that keeps the windows; a domain whose level changes has no members and no record, and
references agree afterwards. -/
theorem State.Sound.changeDomains {D : Table Domain} (h : s.Sound d .tight) (hrising : d.Faults → Table.rising D = true)
    (hwindow : ∀ i, ({ s with domains := D } : State).windowOf i = s.windowOf i)
    (hlevel : d.Links → ∀ i, ({ s with domains := D } : State).levelAt i = s.levelAt i ∨
      (∀ a e, s.term? a = some e → e.prov.domain ≠ i) ∧ s.windowOf i = .quiet)
    (hparents : d.Links → ∀ i o p, Table.get? D i = some o → o.fields.parent = some p →
      ({ s with domains := D } : State).levelAt p = o.fields.level.up ∧ o.fields.level ≠ .feeder)
    (hchannels : d.Links → ∀ i o, Table.get? D i = some o → o.fields.channel.isSome = true → o.fields.level = .feeder) :
    ({ s with domains := D } : State).Sound d .tight := by
  refine ⟨h.terms, h.agrees, fun hd => ?faults, fun hd => ?links⟩
  case faults =>
    have hf := h.faults hd
    exact ⟨hrising hd, hf.room, hf.ids, hf.off, hf.linked, fun i x hw => hf.decided i x (hwindow i ▸ hw)⟩
  case links =>
    have hl := h.links hd
    have hrank : ∀ x c, s.core? x = some c → c.kind.onDomain = true →
        ({ s with domains := D } : State).rankAt c.subject = s.rankAt c.subject := by
      intro x c hc hkind
      have hw := hl.subject x c hc hkind
      rcases hlevel hd c.subject with hsame | ⟨-, hquiet⟩
      · rw [State.rankAt, hsame]; rfl
      · rw [hquiet] at hw; cases hw
    refine ⟨fun a e he => ?_, hparents hd, hchannels hd, fun x c hc hkind => ?_, hl.count, fun x c p hc hmem hp => ?_,
      fun a e he hheld hmem => ?_⟩
    · rcases hlevel hd e.prov.domain with hsame | ⟨hno, -⟩
      · exact hsame.trans (hl.members a e he)
      · exact absurd rfl (hno a e he)
    · exact (hwindow _).trans (hl.subject x c hc hkind)
    · obtain ⟨hpl, g, hg, hck, hgk, hlt⟩ := hl.parent x c p hc hmem hp
      refine ⟨hpl, g, hg, hck, hgk, ?_⟩
      rw [hrank x c hc hck, hrank p g hg hgk]
      exact hlt
    · rw [hwindow]
      exact hl.held a e he hheld hmem

theorem State.putDomain_domain? (s : State) (i j : Nat) (f : DomainFields) :
    (s.putDomain i f).domain? j = if j = i then some ⟨f, s.windowOf i⟩ else s.domain? j := Table.get?_put ..

/-- What the checks of DOMAIN_WRITE leave to happen (R17). -/
structure State.WritesDomain (s : State) (i : Nat) (f : DomainFields) : Prop where
  root    : f.parent.isSome = true → f.level ≠ .feeder
  channel : f.channel.isSome = true → f.level = .feeder
  self    : f.parent ≠ some i
  above   : ∀ p, f.parent = some p → s.levelAt p = f.level.up
  level   : ∀ o, s.domain? i = some o → o.fields.level = f.level ∨
    s.memberCount i = 0 ∧ (s.childDomains i).isEmpty = true ∧ s.windowOf i = .quiet

theorem State.writesDomain_of_checks {s : State} {i : Nat} {f : DomainFields}
    (h : ∀ c ∈ s.domainWriteChecks i f, c.1 = true) : s.WritesDomain i f := by
  simp only [State.domainWriteChecks, List.forall_mem_cons] at h
  obtain ⟨hshape, hself, -, habove, -, hlevel, -⟩ := h
  simp only [Bool.and_eq_true, Bool.not_eq_true', Bool.and_eq_false_imp, decide_eq_false_iff_not, ne_eq,
    Decidable.not_not] at hshape
  obtain ⟨⟨hroot, hchannel⟩, -⟩ := hshape
  refine ⟨hroot, hchannel, by simpa using hself, fun p hp => ?_, fun o ho => ?_⟩
  · rw [hp] at habove
    simpa [State.levelAt] using habove
  · rw [ho] at hlevel
    by_cases hsame : o.fields.level = f.level
    · exact .inl hsame
    · simp only [Option.any_some, ne_eq, hsame, not_false_eq_true, decide_true, Bool.not_true, Bool.false_or,
        Bool.and_eq_true, decide_eq_true_eq, Window.isQuiet_iff] at hlevel
      obtain ⟨⟨hmembers, hkids⟩, hquiet⟩ := hlevel
      exact .inr ⟨hmembers, hkids, hquiet⟩

theorem State.Sound.putDomain (h : s.Sound d .tight) {i : Nat} {f : DomainFields} (hf : s.WritesDomain i f) :
    (s.putDomain i f).Sound d .tight := by
  have hlevelAt : ∀ j, (s.putDomain i f).levelAt j = if j = i then some f.level else s.levelAt j := fun j => by
    rw [State.levelAt, State.putDomain_domain?]
    split <;> rfl
  refine h.changeDomains (fun hd => Table.rising_put i _ (h.faults hd).rising) (fun j => ?window) (fun hd j => ?level)
    (fun hd j o p ho hp => ?parents) fun hd j o ho hc => ?channels
  case window =>
    change (s.putDomain i f).windowOf j = _
    rw [State.windowOf, State.putDomain_domain?]
    split
    · next hj => rw [hj]; rfl
    · rfl
  case level =>
    refine Or.imp_left (hlevelAt j).trans ?_
    by_cases hj : j = i
    · subst hj
      rw [if_pos rfl]
      cases ho : s.domain? j with
      | none =>
        refine .inr ⟨fun a e he hi => ?_, by simp [State.windowOf, ho]⟩
        have hmember := (h.links hd).members a e he
        simp [State.levelAt, hi, ho] at hmember
      | some o =>
        refine (hf.level o ho).imp (fun hsame => by simp [State.levelAt, ho, hsame]) fun ⟨hno, _, hquiet⟩ => ?_
        exact ⟨fun a e he => State.no_member_of_memberCount hno he, hquiet⟩
    · rw [if_neg hj]
      exact .inl rfl
  case parents =>
    change (s.putDomain i f).domain? j = some o at ho
    rw [State.putDomain_domain?] at ho
    refine (hlevelAt p).symm ▸ ?_
    split at ho
    · cases ho
      have hpi : p ≠ i := fun hpi => hf.self (hpi ▸ hp)
      rw [if_neg hpi]
      exact ⟨hf.above p hp, hf.root (Option.isSome_of_eq_some hp)⟩
    · obtain ⟨hup, hnot⟩ := (h.links hd).parents j o p ho hp
      refine ⟨?_, hnot⟩
      split
      · next hpi =>
        subst hpi
        obtain ⟨o', ho', hlevel⟩ : ∃ o', s.domain? p = some o' ∧ some o'.fields.level = o.fields.level.up := by
          rw [State.levelAt] at hup
          cases ho' : s.domain? p with
          | none => cases hl : o.fields.level <;> simp_all [Level.up]
          | some o' => exact ⟨o', rfl, by simpa [ho'] using hup⟩
        rcases hf.level o' ho' with hsame | ⟨-, hkids, -⟩
        · rw [← hsame]; exact hlevel
        · exact absurd hp (State.no_child_of_isEmpty hkids ho)
      · exact hup
  case channels =>
    change (s.putDomain i f).domain? j = some o at ho
    rw [State.putDomain_domain?] at ho
    split at ho
    · cases ho
      exact hf.channel hc
    · exact (h.links hd).channels j o ho hc

theorem State.Sound.domainWrite (h : s.Sound d .tight) (id level : Nat) (parent channel : Option Nat)
    (tap : Option (Nat × Nat)) : (s.domainWrite id level parent channel tap).1.Sound d .tight := by
  unfold State.domainWrite
  split
  · exact h
  · exact h.checked fun hchecks => h.putDomain (State.writesDomain_of_checks hchecks)

theorem State.Sound.domainRemove (h : s.Sound d .tight) (i : Nat) : (s.domainRemove i).1.Sound d .tight := by
  refine h.checked fun hchecks => ?_
  simp only [List.forall_mem_cons, Bool.and_eq_true, decide_eq_true_eq, Window.isQuiet_iff] at hchecks
  obtain ⟨-, -, ⟨⟨hmembers, hkids⟩, hquiet⟩, -⟩ := hchecks
  have hget : ∀ j, Table.get? (Table.erase s.domains i) j = if j = i then none else s.domain? j := fun j =>
    Table.get?_erase ..
  have hold : ∀ j o, Table.get? (Table.erase s.domains i) j = some o → j ≠ i ∧ s.domain? j = some o := by
    intro j o ho
    rw [hget] at ho
    split at ho
    · cases ho
    · next hj => exact ⟨hj, ho⟩
  have hlevelAt : ∀ j, j ≠ i → ({ s with domains := Table.erase s.domains i } : State).levelAt j = s.levelAt j := by
    intro j hj
    rw [State.levelAt, State.domain?, hget, if_neg hj]
    rfl
  refine h.changeDomains (fun hd => Table.rising_erase i (h.faults hd).rising) (fun j => ?window) (fun _ j => ?level)
    (fun hd j o p ho hp => ?parents) fun hd j o ho hc => (h.links hd).channels j o (hold j o ho).2 hc
  case window =>
    rw [State.windowOf, State.domain?, hget]
    split
    · next hj => rw [hj, hquiet]; rfl
    · rfl
  case level =>
    by_cases hj : j = i
    · exact .inr ⟨fun a e he => hj ▸ State.no_member_of_memberCount hmembers he, hj ▸ hquiet⟩
    · exact .inl (hlevelAt j hj)
  case parents =>
    obtain ⟨-, ho⟩ := hold j o ho
    have hpi : p ≠ i := fun hpi => State.no_child_of_isEmpty hkids ho (hpi ▸ hp)
    rw [hlevelAt p hpi]
    exact (h.links hd).parents j o p ho hp

end Domains

end Sys2Proof.Machine

/-! The agreement across every request, start and event, and O8 and O9. -/

namespace Sys2Proof.Machine

/-! ## Requests -/

section Requests

variable {s : State} {d : Depth}

theorem State.applySetting_ties (s : State) (n : Nat) (v : Int) : (s.applySetting n v).ties = s.ties := by
  have hreminders : ∀ (t : State) (before : Int), (t.remindersAfter before v).ties = t.ties := by
    intro t before
    have hcores : (t.remindersAfter before v).cores = t.cores := by
      simp only [State.cores, State.remindersAfter, List.map_map]
      refine List.map_congr_left fun e _ => ?_
      simp only [Function.comp_apply]
      split
      · rfl
      · split <;> rfl
    rw [State.ties, hcores]
    rfl
  unfold State.applySetting
  split
  · exact hreminders _ _
  · dsimp only
    split <;> rfl
  · rfl
  · dsimp only
    split <;> rfl
  · rfl

theorem State.settingsWrite_ties (s : State) (entries : List (Byte × Word32)) :
    (s.settingsWrite entries).1.ties = s.ties := by
  have hrun : ∀ (es : List (Nat × Int)) (t : State),
      (es.foldl (fun s e => s.applySetting e.1 (clampSetting e.1 e.2)) t).ties = t.ties := by
    intro es
    induction es with
    | nil => exact fun _ => rfl
    | cons e es ih => exact fun t => (ih _).trans (t.applySetting_ties ..)
  unfold State.settingsWrite
  dsimp only
  split
  · exact hrun _ s
  · rfl

theorem State.Sound.bulkAddr (h : s.Sound d .tight) (attrs : Byte) (op : BulkOp) (values : Byte) (a : Nat)
    (c : BulkCounts) : (s.bulkAddr attrs op values a c).1.Sound d .tight := by
  have hmasked : ∀ t v c, (s.bulkMasked a t v c).1.Sound d .tight := by
    intro t v c
    unfold State.bulkMasked
    split
    · exact h
    · exact h.setMasked a v
  have hwatch : ∀ {u : State} t v c, u.Sound d .tight → (u.bulkWatch a t v c).1.Sound d .tight := by
    intro u t v c hu
    unfold State.bulkWatch
    split
    · exact hu
    · exact hu.setWatch a v
  unfold State.bulkAddr
  split
  · exact h
  · dsimp only
    split
    · refine hwatch _ _ _ ?_
      split
      · exact hmasked ..
      · exact h
    · split
      · exact hmasked ..
      · exact h

theorem State.Sound.bulkApply (h : s.Sound d .tight) (attrs : Byte) (op : BulkOp) (values : Byte)
    (selection : List Nat) : (s.bulkApply attrs op values selection).1.Sound d .tight := by
  have hrun : ∀ (l : List Nat) (acc : State × BulkCounts), acc.1.Sound d .tight →
      (l.foldl (fun acc a => acc.1.bulkAddr attrs op values a acc.2) acc).1.Sound d .tight := by
    intro l
    induction l with
    | nil => exact fun _ hacc => hacc
    | cons a l ih => exact fun acc hacc => ih _ (hacc.bulkAddr ..)
  exact hrun selection (s, ⟨0, 0, 0, 0⟩) h

theorem State.Sound.bulkUpdate (h : s.Sound d .tight) (source : Nat) (attrs : Byte) (op : Nat) (values : Byte)
    (first last : Nat) (bitmap : List Byte) : (s.bulkUpdate source attrs op values first last bitmap).1.Sound d .tight := by
  unfold State.bulkUpdate
  split
  · exact h.bulkApply ..
  · exact h.checked fun _ => h.bulkApply ..
  · exact h

theorem State.Sound.withFault (h : s.Sound d .tight) (id : Nat) {run : FaultRecord → State × Reply}
    (hrun : ∀ f, s.fault? id = some f → (run f).1.Sound d .tight) : (s.withFault id run).1.Sound d .tight := by
  unfold State.withFault
  split
  · exact h
  · split
    · exact h
    · next f hf => exact hrun f hf

theorem State.Sound.decideNow (h : s.Sound d .tight) (id : Nat) : (s.decideNow id).1.Sound d .tight := by
  unfold State.decideNow
  split
  · exact h
  · split
    · exact h
    · split
      · next hclose => exact h.closeWindow hclose
      · exact h

theorem State.learnedList_ties (s : State) (start : Nat) : (s.learnedList start).1.ties = s.ties := by
  unfold State.learnedList
  split <;> rfl

theorem State.terminalRead_ties (s : State) (a : Nat) : (s.terminalRead a).1.ties = s.ties := by
  unfold State.terminalRead
  split
  · rfl
  · split <;> rfl

theorem State.domainRead_ties (s : State) (i : Nat) : (s.domainRead i).1.ties = s.ties := by
  unfold State.domainRead
  split
  · rfl
  · split <;> rfl

theorem State.floorUnitWrite_ties (s : State) (f : Nat) : (s.floorUnitWrite f).1.ties = s.ties := by
  unfold State.floorUnitWrite
  split
  · rfl
  · split <;> rfl

theorem State.floorUnitRead_ties (s : State) (f : Nat) : (s.floorUnitRead f).1.ties = s.ties := by
  unfold State.floorUnitRead
  split <;> rfl

theorem State.matchRequest_ties (s : State) (first last : Nat) (care pattern : Byte) (states : Option Word16)
    (mode : Nat) : (s.matchRequest first last care pattern states mode).1.ties = s.ties := by
  unfold State.matchRequest
  split
  · rfl
  · split <;> rfl

theorem State.faultList_ties (s : State) (start : Nat) : (s.faultList start).1.ties = s.ties := by
  unfold State.faultList
  split <;> rfl

theorem State.powerRead_ties (s : State) (type sel : Nat) : (s.powerRead type sel).1.ties = s.ties := by
  unfold State.powerRead State.readChannel State.readFloorPower
  split
  · split <;> rfl
  · split
    · rfl
    · split <;> rfl
  · rfl

theorem State.countersRead_ties (s : State) (sel : Nat) : (s.countersRead sel).1.ties = s.ties := by
  unfold State.countersRead
  split
  · rfl
  · split
    · rfl
    · split <;> rfl

theorem State.resync_ties (s : State) (type which : Nat) : (s.resync type which).1.ties = s.ties := by
  unfold State.resync
  split
  · rfl
  · split <;> rfl

theorem State.Sound.carryOut (h : s.Sound d .tight) (r : Request) : (s.carryOut r).1.Sound d .tight := by
  cases r with
  | identify => exact h
  | terminalWrite => exact h.terminalWrite ..
  | terminalRemove => exact h.terminalRemove _
  | terminalRead => exact h.of_ties (State.terminalRead_ties ..)
  | learnedList => exact h.of_ties (State.learnedList_ties ..)
  | domainWrite => exact h.domainWrite ..
  | domainRemove => exact h.domainRemove _
  | domainRead => exact h.of_ties (State.domainRead_ties ..)
  | floorUnitWrite => exact h.of_ties (State.floorUnitWrite_ties ..)
  | floorUnitRemove => exact h.checked fun _ => h.of_ties rfl
  | floorUnitRead => exact h.of_ties (State.floorUnitRead_ties ..)
  | settingsWrite => exact h.of_ties (State.settingsWrite_ties ..)
  | settingsRead => exact h
  | matchTerminals => exact h.of_ties (State.matchRequest_ties ..)
  | bulkUpdate => exact h.bulkUpdate ..
  | faultList => exact h.of_ties (State.faultList_ties ..)
  | faultRead => exact h.withFault _ fun _ _ => h
  | faultAck i => exact h.withFault _ fun _ _ => h.of_ties (s.modFault_ties i.toNat fun _ => rfl)
  | faultClear => exact h.withFault _ fun _ _ => h.clearFault _
  | decideNow => exact h.decideNow _
  | powerRead => exact h.of_ties (State.powerRead_ties ..)
  | countersRead => exact h.of_ties (State.countersRead_ties ..)
  | noticeMaskWrite => exact h.of_ties rfl
  | resync => exact h.of_ties (State.resync_ties ..)
  | configSave => exact h.of_ties rfl
  | softRestart => exact h.of_ties rfl
  | unknownKind => exact h
  | badLength => exact h
  | badChoice => exact h

theorem State.Sound.take (h : s.Sound d .tight) (r : Request) : (s.take r).1.Sound d .tight := by
  unfold State.take
  split
  · exact h
  · exact h.carryOut r

theorem State.Sound.modLink {k : Slack} (h : s.Sound d k) (f : HostLink → HostLink) : (s.modLink f).Sound d k :=
  h.of_ties (s.modLink_ties f)

theorem State.Sound.takeIntoBuffer (h : s.Sound d .tight) (tag : Byte) (r : Request) :
    (s.takeIntoBuffer tag r).Sound d .tight :=
  (h.take r).modLink fun l => { l with buffer := l.buffer ++ [⟨tag, r, conditionAfter (s.take r).2⟩] }

theorem State.Sound.arrive (h : s.Sound d .tight) (tag : Byte) (r : Request) : (s.arrive tag r).Sound d .tight := by
  unfold State.arrive
  split
  · exact h.modLink _
  · dsimp only
    split
    · exact (h.modLink _).modLink _
    · exact (h.modLink _).takeIntoBuffer tag r

theorem State.Sound.settle (h : s.Sound d .tight) : s.settle.Sound d .tight := h.of_ties s.settle_ties

theorem State.Sound.request (h : s.Sound d .tight) (tag : Byte) (r : Request) : (s.request tag r).Sound d .tight :=
  (h.arrive tag r).settle

/-! ## The receiver -/

theorem State.Sound.judgeFrame (h : s.Sound d .tight) (bytes : List Byte) : (s.judgeFrame bytes).Sound d .tight := by
  unfold State.judgeFrame
  dsimp only
  split
  · split
    · exact (h.modLink _).arrive _ _
    · exact h.modLink _
  · exact (h.modLink _).modLink _

theorem State.Sound.frameByte (h : s.Sound d .tight) (bytes : List Byte) (byte : Byte) :
    (s.frameByte bytes byte).Sound d .tight := by
  unfold State.frameByte
  split
  · split <;> exact h.modLink _
  · dsimp only
    split
    · exact h.judgeFrame _
    · exact h.modLink _

theorem State.Sound.hostByte (h : s.Sound d .tight) (byte : Byte) (stopOk : Bool) :
    (s.hostByte byte stopOk).Sound d .tight := by
  unfold State.hostByte
  split
  · split
    · exact h.modLink _
    · exact h
  · split
    · exact h.frameByte _ byte
    · exact h.modLink _

theorem State.Sound.hostBytes (h : s.Sound d .tight) (bytes : List Byte) : (s.hostBytes bytes).Sound d .tight := by
  unfold State.hostBytes
  induction bytes generalizing s with
  | nil => exact h
  | cons b bytes ih => exact ih (h.hostByte b true)

theorem State.gapTimeout_ties (s : State) : s.gapTimeout.ties = s.ties := by
  unfold State.gapTimeout
  split
  · rfl
  · split <;> rfl

end Requests

/-! ## The riser bus -/

section Riser

variable {s : State} {d : Depth}

theorem State.Sound.modUnit (h : s.Sound d .tight) (floor : Nat) (f : FloorUnit → FloorUnit) :
    (s.modUnit floor f).Sound d .tight := h.of_ties (s.modUnit_ties floor f)

theorem State.Sound.count (h : s.Sound d .tight) (floor : Nat) (f : UnitCounters → UnitCounters) :
    (s.count floor f).Sound d .tight := h.modUnit floor _

theorem State.Sound.modRiser (h : s.Sound d .tight) (f : Riser → Riser) : (s.modRiser f).Sound d .tight :=
  h.of_ties (s.modRiser_ties f)

theorem State.tellAttention_ties (s : State) : s.tellAttention.ties = s.ties := by
  unfold State.tellAttention
  dsimp only
  split <;> rfl

theorem State.endTxn_ties (s : State) (more : Bool) : (s.endTxn more).ties = s.ties := by
  unfold State.endTxn State.tellMark
  dsimp only
  split
  · exact State.tellAttention_ties _
  · rfl

theorem State.sendCommand_ties (s : State) (t : Txn) (h : Hearing) : (s.sendCommand t h).ties = s.ties := by
  unfold State.sendCommand
  dsimp only
  split
  · rfl
  · split <;> rfl

theorem State.sendIf_ties (s : State) (kind : Order → Bool) (h : Hearing) : (s.sendIf kind h).ties = s.ties := by
  unfold State.sendIf
  split
  · rfl
  · split
    · exact s.sendCommand_ties _ h
    · rfl

theorem State.sendBusy_ties (s : State) (h : Hearing) : (s.sendBusy h).ties = s.ties := by
  unfold State.sendBusy
  split
  · rfl
  · split
    · exact (s.modRiser _).sendCommand_ties _ h
    · rfl

theorem State.Sound.missed (h : s.Sound d .tight) (floor : Nat) : (s.missed floor).Sound d .tight := by
  have hsilent : ∀ u n, ((s.count floor fun c => { c with misses := inc16 c.misses }).enterSilent floor u n).Sound d
      .tight := fun u n => ((h.count floor _).modUnit floor _).silenceOutcome ..
  unfold State.missed
  split
  · exact h
  · dsimp only
    split
    · exact h.of_ties rfl
    · split
      · exact hsilent ..
      · exact h.of_ties rfl
    · split
      · exact hsilent ..
      · exact h.of_ties rfl
    · split
      · exact hsilent ..
      · exact h.of_ties rfl

theorem State.Sound.attemptFailed (h : s.Sound d .tight) (t : Txn) (floor : Nat) (why : Option ReplyFailure) :
    (s.attemptFailed t floor why).Sound d .tight := by
  unfold State.attemptFailed
  have hcounted : (if t.orphan then s else s.count floor fun c => countFailure c why).Sound d .tight := by
    split
    · exact h
    · exact h.of_ties rfl
  dsimp only
  split
  · exact hcounted.of_ties (State.modRiser_ties ..)
  · refine State.Sound.of_ties ?_ (State.endTxn_ties ..)
    split
    · exact h
    · exact (h.count floor _).missed floor

theorem State.tapTrailer_ties (s : State) (floor : Nat) (a b : Word16) : (s.tapTrailer floor a b).ties = s.ties := by
  have hreading : ∀ (t : State) (tap : Tap) (w : Word16), (t.tapReading floor tap w).ties = t.ties := by
    intro t tap w
    unfold State.tapReading
    split
    · rfl
    · dsimp only [State.offerPower]
      split <;> rfl
  exact (hreading _ .b b).trans (hreading _ .a a)

theorem State.Sound.handRecord (h : s.Sound d .tight) (floor : Nat) (r : WireRecord) :
    (s.handRecord floor r).Sound d .tight := by
  unfold State.handRecord
  split
  · exact h.of_ties rfl
  · dsimp only
    split
    · exact h.of_ties rfl
    all_goals exact (h.count floor _).takeEvent ..

theorem State.Sound.takeEvents (h : s.Sound d .tight) (floor : Nat) (seq more : Bool) (records : List WireRecord)
    (tapA tapB : Word16) : (s.takeEvents floor seq more records tapA tapB).Sound d .tight := by
  have hrun : ∀ (l : List WireRecord) (t : State), t.Sound d .tight →
      (l.foldl (fun s r => s.handRecord floor r) t).Sound d .tight := by
    intro l
    induction l with
    | nil => exact fun _ ht => ht
    | cons r l ih => exact fun t ht => ih _ (ht.handRecord floor r)
  have hpaced : ∀ {t : State} (b : Bool), t.Sound d .tight → (if b then t.pacingReturn else t).Sound d .tight := by
    intro t b ht
    split
    · exact ht.of_ties t.pacingReturn_ties
    · exact ht
  have hall := hpaced (records.any WireRecord.urgent) <|
    (hrun records _ (h.of_ties (s.modUnit_ties floor fun u => { u with seq := some (!seq) }))).of_ties
      (State.tapTrailer_ties _ floor tapA tapB)
  unfold State.takeEvents
  dsimp only
  split
  · exact hall
  · exact hall.of_ties (State.modUnit_ties ..)

theorem State.Sound.takeMap (h : s.Sound d .tight) (floor : Nat) (before : Contact) (light : BitVec 16)
    (held : Option Bool) (tapA tapB : Word16) : (s.takeMap floor before light held tapA tapB).Sound d .tight := by
  refine State.Sound.of_ties ?_ (State.tapTrailer_ties ..)
  split
  · exact h.of_ties rfl
  · exact ((h.modUnit floor _).modUnit floor _).baselineFloor ..

theorem State.Sound.accept (h : s.Sound d .tight) (floor : Nat) (u : FloorUnit) (seq : Bool) (g : GoodReply) :
    (s.accept floor u seq g).Sound d .tight := by
  have hcontact : ((s.count floor fun c => { c with good := inc16 c.good }).contactGood floor u).Sound d .tight :=
    (h.count floor _).contactGood floor u
  unfold State.accept
  dsimp only
  split
  · exact hcontact.takeEvents ..
  · exact hcontact.takeMap ..

theorem State.Sound.judgeReply (h : s.Sound d .tight) (t : Txn) (floor : Nat) (chars : List RxChar) :
    (s.judgeReply t floor chars).Sound d .tight := by
  unfold State.judgeReply
  split
  · exact h.attemptFailed ..
  · split
    · exact h.of_ties (State.endTxn_ties ..)
    · split
      · exact h.of_ties (State.endTxn_ties ..)
      · exact (h.accept ..).of_ties (State.endTxn_ties ..)

theorem State.Sound.windowExpires (h : s.Sound d .tight) : s.windowExpires.Sound d .tight := by
  unfold State.windowExpires
  split
  · exact h
  · split
    · exact h
    · split
      · split
        · exact h.of_ties rfl
        · exact h.attemptFailed ..
      · exact h

theorem State.Sound.abandonReply (h : s.Sound d .tight) : s.abandonReply.Sound d .tight := by
  unfold State.abandonReply
  split
  · exact h
  · split
    · exact h
    · split
      · dsimp only
        split
        · exact h.of_ties rfl
        · exact (h.modRiser _).attemptFailed ..
      · exact h

theorem State.Sound.replyEnds (h : s.Sound d .tight) (chars : List RxChar) : (s.replyEnds chars).Sound d .tight := by
  unfold State.replyEnds
  split
  · exact h
  · split
    · exact h
    · split
      · dsimp only
        split
        · exact h.of_ties rfl
        · have hquiet : s.quietLine.Sound d .tight := h.of_ties rfl
          exact hquiet.judgeReply ..
      · exact h

theorem State.clearEnds_ties (s : State) : s.clearEnds.ties = s.ties := by
  unfold State.clearEnds
  split
  · rfl
  · split
    · split
      · rfl
      · split
        · rfl
        · exact State.endTxn_ties ..
    · rfl

end Riser

/-! ## Frames, HALTED, expiries and time -/

section Events

variable {s : State} {d : Depth}

theorem State.frameEnds_ties (s : State) : s.frameEnds.ties = s.ties := by
  unfold State.frameEnds
  dsimp only
  split <;> rfl

theorem State.cutFrame_ties (s : State) : s.cutFrame.ties = s.ties := by
  unfold State.cutFrame
  dsimp only
  split <;> rfl

theorem State.saveCompletes_ties (s : State) : s.saveCompletes.ties = s.ties := by
  unfold State.saveCompletes
  split <;> rfl

theorem State.enterHalted_ties (s : State) : s.enterHalted.ties = s.ties := by
  unfold State.enterHalted
  split
  · rfl
  · exact s.cutFrame_ties

theorem State.readSupply_ties (s : State) (fails : Bool) : (s.readSupply fails).ties = s.ties := by
  unfold State.readSupply
  split
  · exact s.enterHalted_ties
  · rfl

theorem State.attention_ties (s : State) : s.attention.ties = s.ties := by
  unfold State.attention
  split
  · rfl
  · exact State.tellAttention_ties _

theorem State.gapExpires_ties (s : State) : s.gapExpires.ties = s.ties := by
  unfold State.gapExpires
  split <;> rfl

theorem State.stepExpires_ties (s : State) : s.stepExpires.ties = s.ties := by
  unfold State.stepExpires
  split <;> rfl

theorem State.agingExpires_ties (s : State) : s.agingExpires.ties = s.ties := by
  unfold State.agingExpires
  split <;> rfl

theorem State.reminderExpires_ties (s : State) (id : Nat) : (s.reminderExpires id).ties = s.ties := by
  unfold State.reminderExpires
  split
  · rfl
  · split
    · exact (State.offer_ties ..).trans (s.modFault_ties id fun _ => rfl)
    · rfl

theorem State.Sound.unlessHalted (h : s.Sound d .tight) {f : State → State} (hf : (f s).Sound d .tight) :
    (s.unlessHalted f).Sound d .tight := by
  unfold State.unlessHalted
  split
  · exact h
  · exact hf

theorem State.Sound.windowEnds (h : s.Sound d .tight) (id : Nat) : (s.windowEnds id).Sound d .tight := by
  unfold State.windowEnds
  split
  · exact h
  · exact h
  · split
    · exact h
    · split
      · next hclose => exact h.closeWindow hclose
      · exact h

theorem State.Sound.clearingExpires (h : s.Sound d .tight) (id : Nat) : (s.clearingExpires id).Sound d .tight := by
  unfold State.clearingExpires
  split
  · exact h.clearingLimit id
  · exact h

theorem State.Sound.feederSamples (h : s.Sound d .tight) (c0 c1 c2 c3 : BitVec 12) :
    (s.feederSamples c0 c1 c2 c3).Sound d .tight :=
  (((h.feederSample 0 c0).feederSample 1 c1).feederSample 2 c2).feederSample 3 c3

/-- A change of every entry that keeps each. -/
theorem State.Sound.mapTerms (h : s.Sound d .tight) {g : Terminal → Terminal} (hg : ∀ e : Terminal, e.Keeps (g e))
    {t : State} (hterms : t.terms = s.terms.map fun e => (e.1, g e.2)) (hdomains : t.domains = s.domains)
    (hcores : t.cores = s.cores) : t.Sound d .tight := by
  have hmapped : ({ s with terms := s.terms.map fun e => (e.1, g e.2) } : State).Sound d .tight := by
    have hterm : ∀ a u, Table.get? (s.terms.map fun e => (e.1, g e.2)) a = some u → ∃ e, s.term? a = some e ∧ g e = u := by
      intro a u hu
      rw [Table.get?_map] at hu
      exact Option.map_eq_some_iff.mp hu
    refine ⟨Table.distinct_map h.terms g, fun a u hu => ?_, fun hd => ?_, fun hd => ?_⟩
    · obtain ⟨e, he, rfl⟩ := hterm a u hu
      exact (hg e).agrees (h.agrees a e he)
    · have hf := h.faults hd
      refine ⟨hf.rising, by simpa using hf.room, hf.ids, fun x f hx hmem => ?_, fun a u x hu hx => ?_, hf.decided⟩
      · have hcount := Table.countWhere_map s.terms g fun _ t => decide (t.link = some x)
        simp only [(hg _).link] at hcount
        exact (hf.off x f hx hmem).trans hcount.symm
      · obtain ⟨e, he, rfl⟩ := hterm a u hu
        exact hf.linked a e x he ((hg e).link ▸ hx)
    · have hl := h.links hd
      refine ⟨fun a u hu => ?_, hl.parents, hl.channels, hl.subject, hl.count, hl.parent, fun a u hu hheld hmem => ?_⟩
      · obtain ⟨e, he, rfl⟩ := hterm a u hu
        rw [(hg e).domain]
        exact hl.members a e he
      · obtain ⟨e, he, rfl⟩ := hterm a u hu
        rw [(hg e).domain] at hmem ⊢
        exact hl.held a e he ((hg e).held hheld) hmem
  refine hmapped.of_ties ?_
  rw [State.ties, hterms, hdomains, hcores]
  rfl

theorem Terminal.keeps_tick (e : Terminal) : e.Keeps e.tick := by
  refine ⟨fun ⟨hgasp, hhold, hsince, hprior, hback, hlit, hfolded⟩ => ⟨?_, ?_, hsince, hprior, hback, hlit, hfolded⟩,
    rfl, rfl, id⟩
  · simpa [Terminal.tick, countDown] using hgasp
  · simpa [Terminal.tick, countDown] using hhold

theorem State.Sound.tick (h : s.Sound d .tight) : s.tick.Sound d .tight := by
  have hlines : s.tickLines.Sound d .tight := h.of_ties rfl
  refine hlines.unlessHalted (hlines.mapTerms Terminal.keeps_tick rfl rfl ?_)
  simp only [State.cores, State.tickTimers, List.map_map]
  rfl

end Events

/-! ## Starts (R187, R188) -/

/-- A state as a start leaves it: every entry is as provisioned, every window QUIET, and no record open. -/
structure State.Fresh (s : State) : Prop where
  terms   : ∀ e ∈ s.terms, ∃ p, e.2 = newTerminal p
  windows : ∀ e ∈ s.domains, e.2.window = .quiet
  cores   : s.cores = []

theorem State.Fresh.of_ties {s t : State} (h : s.Fresh) (e : t.ties = s.ties) : t.Fresh :=
  ⟨State.terms_of_ties e ▸ h.terms, State.domains_of_ties e ▸ h.windows, State.cores_of_ties e ▸ h.cores⟩

theorem startState_fresh (i : Image) (rate : LineRate) (store : Store) (fmus : Table Fmu) (pending : List Instr) :
    (startState i rate store fmus pending).Fresh := by
  refine ⟨fun e he => ?_, fun e he => ?_, rfl⟩
  · obtain ⟨p, -, rfl⟩ := List.mem_map.mp he
    exact ⟨p.2, rfl⟩
  · obtain ⟨p, -, rfl⟩ := List.mem_map.mp he
    rfl

theorem State.coldStart_fresh (s : State) (kind : StartKind) (strap1 strap0 pfail : Bool) :
    (s.coldStart kind strap1 strap0 pfail).Fresh := by
  unfold State.coldStart
  dsimp only
  split
  · exact State.Fresh.of_ties (startState_fresh ..) ((State.readSupply_ties ..).trans (State.offer_ties ..))
  · exact State.Fresh.of_ties (startState_fresh ..)
      ((State.readSupply_ties ..).trans ((State.offer_ties ..).trans (State.offer_ties ..)))

theorem State.softStart_fresh (s : State) (pfail : Bool) : (s.softStart pfail).Fresh :=
  State.Fresh.of_ties (startState_fresh ..) ((State.readSupply_ties ..).trans (State.offer_ties ..))

theorem State.Fresh.termsAgree {s : State} (h : s.Fresh) : s.TermsAgree := fun e he => by
  obtain ⟨p, hp⟩ := h.terms e he
  rw [hp]
  exact newTerminal_agrees p

theorem State.Fresh.faults_nil {s : State} (h : s.Fresh) : s.faults = [] := List.map_eq_nil_iff.mp h.cores

theorem State.Fresh.faultsAgree {s : State} (h : s.Fresh) : s.FaultsAgree := by
  refine ⟨by rw [h.faults_nil]; exact List.nodup_nil, by simp [h.faults_nil], fun e he x hx => ?_, fun e he x hw => ?_⟩
  · obtain ⟨p, hp⟩ := h.terms e he
    rw [hp] at hx
    cases hx
  · rw [h.windows e he] at hw
    cases hw

theorem State.Fresh.childrenAgree {s : State} (h : s.Fresh) : s.ChildrenAgree := by
  refine ⟨by simp [h.faults_nil], by simp [h.faults_nil], by simp [h.faults_nil], fun e he hheld => ?_⟩
  obtain ⟨p, hp⟩ := h.terms e he
  rw [hp] at hheld
  cases hheld

/-! ## Every command -/

/-- After a command the agreement stands, or the part has just started. -/
theorem State.Sound.exec {s t : State} {d : Depth} (h : s.Sound d .tight) (c : Instr) (he : exec c s = .next t) :
    t.Sound d .tight ∨ t.Fresh := by
  cases c <;> cases he
  case powerOnReset strap1 strap0 pfail => exact .inr ((s.coldStart_fresh ..).of_ties (State.settle_ties _))
  case pinReset strap1 strap0 pfail => exact .inr ((s.coldStart_fresh ..).of_ties (State.settle_ties _))
  case softRestartPerformed pfail =>
    unfold State.restartIfDue
    split
    · exact .inr ((s.softStart_fresh pfail).of_ties (State.settle_ties _))
    · exact .inl h.settle
  all_goals left
  case hostFrameReceived bytes => exact (h.hostBytes _).settle
  case hostFrameGapTimeout => exact (h.of_ties s.gapTimeout_ties).settle
  case hostByteReceived byte stopOk => exact (h.hostByte byte stopOk).settle
  case frameBoundary => exact (h.of_ties s.frameEnds_ties).settle
  case configSaveComplete => exact (h.of_ties s.saveCompletes_ties).settle
  case supplyFail => exact (h.of_ties s.enterHalted_ties).settle
  case clearTransactionEnd => exact (h.of_ties s.clearEnds_ties).settle
  case attentionAsserted => exact (h.unlessHalted (h.of_ties s.attention_ties)).settle
  case gapTimerExpiry => exact (h.unlessHalted (h.of_ties s.gapExpires_ties)).settle
  case stepTimerExpiry => exact (h.unlessHalted (h.of_ties s.stepExpires_ties)).settle
  case feederSample => exact (h.unlessHalted (h.feederSamples ..)).settle
  case gaspHoldExpiry => exact (h.unlessHalted (h.gaspHoldExpires _)).settle
  case holdDownExpiry => exact (h.unlessHalted (h.holdDownExpires _)).settle
  case agingTick => exact (h.unlessHalted (h.of_ties s.agingExpires_ties)).settle
  case windowTimerExpiry => exact (h.unlessHalted (h.windowEnds _)).settle
  case clearingTimerExpiry => exact (h.unlessHalted (h.clearingExpires _)).settle
  case reminderTimerExpiry => exact (h.unlessHalted (h.of_ties (s.reminderExpires_ties _))).settle
  case poll => exact (h.of_ties (State.sendIf_ties ..)).settle
  case status => exact (h.of_ties (State.sendIf_ties ..)).settle
  case clear => exact (h.of_ties (State.sendIf_ties ..)).settle
  case riserBusy => exact (h.of_ties (State.sendBusy_ties ..)).settle
  case replyWindowExpiry => exact h.windowExpires.settle
  case riserReplyReceived => exact (h.replyEnds _).settle
  case replyAbandoned => exact h.abandonReply.settle
  case riserCharacterReceived => exact (h.modRiser _).settle
  case fmuEventRecorded => exact (h.of_ties (State.modFmus_ties ..)).settle
  case fmuStart => exact (h.of_ties (State.modFmus_ties ..)).settle
  all_goals exact h.request _ _

theorem State.Sound.step {s t : State} {d : Depth} (h : s.Sound d .tight) (hstep : step s = .next t) :
    t.Sound d .tight ∨ t.Fresh := by
  cases hq : s.pending with
  | nil =>
    simp only [Machine.step, hq] at hstep
    cases hstep
    exact .inl h.tick
  | cons c rest =>
    simp only [Machine.step, hq] at hstep
    have hs : ({ s with pending := rest } : State).Sound d .tight := h.of_ties rfl
    exact hs.exec c hstep

/-- Settles O8: the agreement of the entries is the agreement of the tables to its first depth, which every command
keeps or a start makes anew. -/
theorem terminalRecordsAgree : Obligations.TerminalRecordsAgree := by
  intro s t hk h hstep
  rcases (h.sound hk).step hstep with hsound | hfresh
  · exact hsound.termsAgree
  · exact hfresh.termsAgree

/-- The fault table's agreement as the second depth of the agreement of the tables. -/
theorem State.FaultsAgree.sound {s : State} (h : s.FaultsAgree) (ht : s.TermsAgree) (hk : s.Keyed) :
    s.Sound .faults .tight :=
  ⟨(ht.sound hk).terms, (ht.sound hk).agrees, fun _ => h.tied ht hk, False.elim⟩

/-- The agreement of the links as its third depth. -/
theorem State.ChildrenAgree.sound {s : State} (h : s.ChildrenAgree) (hl : s.Linked) (hf : s.FaultsAgree)
    (ht : s.TermsAgree) (hk : s.Keyed) : s.Sound .links .tight :=
  ⟨(ht.sound hk).terms, (ht.sound hk).agrees, fun _ => hf.tied ht hk, fun _ => h.tied hl⟩

/-- Settles O9: both parts are depths of the agreement of the tables, which every command keeps or a start makes
anew. -/
theorem offCountsAgree : Obligations.OffCountsAgree := by
  refine ⟨fun s t hk ht hf hstep => ?faults, fun s t hk hl ht hf hc hstep => ?links⟩
  case faults =>
    rcases (hf.sound ht hk).step hstep with hsound | hfresh
    · exact (hsound.faults trivial).faultsAgree hsound.termsAgree hsound.terms
    · exact hfresh.faultsAgree
  case links =>
    rcases (hc.sound hl hf ht hk).step hstep with hsound | hfresh
    · exact (hsound.links trivial).childrenAgree (hsound.faults trivial) hsound.terms
    · exact hfresh.childrenAgree

end Sys2Proof.Machine

/-! What the fault table's operations offer, remove and leave alone: notices across states that agree in what is
provisioned, what a removal does to records and windows, and the climb of the clearing rule. -/

namespace Sys2Proof.Machine

/-! ## Notices across states that agree in what is provisioned -/

section Offers

variable {s t : State} (h : t.kept = s.kept)
include h

/-- An offer reads the queues, the masks and the uptime. -/
theorem State.offer_notices_of_kept (hn : t.notices = s.notices) (c : NoticeClass) (b : NoticeBody) :
    (t.offer c b).notices = (s.offer c b).notices := by
  simp only [State.offer, State.modNotices, State.blockedFloor, State.now, hn, State.enables_of_kept h,
    State.floorMask_of_kept h, State.clock_of_kept h]

theorem State.faultSubject_of_kept (k : FaultKind) (i : Nat) : t.faultSubject k i = s.faultSubject k i := by
  have hlevel := State.levelAt_of_kept h i
  simp only [State.levelAt] at hlevel
  simp only [State.faultSubject, hlevel]

theorem State.faultClass_of_kept (k : FaultKind) (i : Nat) : t.faultClass k i = s.faultClass k i := by
  simp only [State.faultClass, State.faultSubject_of_kept h]

theorem State.openedNotice_of_kept (x : Nat) (f : FaultRecord) (w : Bool) :
    t.openedNotice x f w = s.openedNotice x f w := by
  have hchannel : ((t.domain? f.subject).bind fun o => o.fields.channel) =
      (s.domain? f.subject).bind fun o => o.fields.channel := by
    have hfields := congrArg (fun D => (Table.get? D f.subject).bind DomainFields.channel) (State.domainFields_of_kept h)
    simpa only [State.domain?, Table.get?_map, Option.bind_map, Function.comp_def] using hfields
  simp only [State.openedNotice, State.faultSubject_of_kept h, hchannel]

theorem State.progressed_of_kept (f : FaultRecord) : t.progressed f = s.progressed f := by
  simp only [State.progressed, State.clock_of_kept h, State.settings_of_kept h]

/-- FAULT_CLOSED carries the record's fields (R146). -/
theorem State.offerClosed_notices (hn : t.notices = s.notices) {x : Nat} {g : FaultRecord} (hg : t.fault? x = some g)
    (r : CloseReason) (a b : Nat) : (t.offerClosed x r a b).notices =
      (s.offer .info (.faultClosed x g.kind (s.faultSubject g.kind g.subject) r (decide (r = .host)) g.openedAt
        g.affected a b g.acked g.reminders)).notices := by
  rw [State.offerClosed, hg]
  dsimp only
  rw [State.offer_notices_of_kept h hn, State.faultSubject_of_kept h]

end Offers

/-- A record whose notice is not held offers nothing before its close (R126). -/
theorem State.offerHeld_of_clear {s : State} {x : Nat} {f : FaultRecord} (hx : s.fault? x = some f)
    (hf : f.held = false) : s.offerHeld x = s := by
  simp [State.offerHeld, hx, hf]

theorem State.offerHeld_fault?_ne (s : State) {x y : Nat} (hy : y ≠ x) : (s.offerHeld x).fault? y = s.fault? y := by
  unfold State.offerHeld
  split
  · exact s.offerOpened_fault?_ne true hy
  · rfl

theorem State.offerClosed_faults (s : State) (x : Nat) (r : CloseReason) (a b : Nat) :
    (s.offerClosed x r a b).faults = s.faults := by
  unfold State.offerClosed
  split <;> rfl

theorem State.offerClosed_fault? (s : State) (x : Nat) (r : CloseReason) (a b y : Nat) :
    (s.offerClosed x r a b).fault? y = s.fault? y := by
  rw [State.fault?, State.offerClosed_faults]
  rfl

/-! ## What the fault table leaves alone -/

/-- All but the tables and queues that the fault table writes. -/
def State.aside (s : State) : State :=
  { s with terms := [], domains := [], faults := [], faultCtl := newFaultControl, notices := newQueues }

theorem State.offerOpened_aside (s : State) (x : Nat) (w : Bool) : (s.offerOpened x w).aside = s.aside := by
  unfold State.offerOpened
  split <;> rfl

theorem State.offerHeld_aside (s : State) (x : Nat) : (s.offerHeld x).aside = s.aside := by
  unfold State.offerHeld
  split
  · exact s.offerOpened_aside x true
  · rfl

theorem State.offerClosed_aside (s : State) (x : Nat) (r : CloseReason) (a b : Nat) :
    (s.offerClosed x r a b).aside = s.aside := by
  unfold State.offerClosed
  split <;> rfl

theorem State.removeFault_aside (s : State) (x : Nat) : (s.removeFault x).aside = s.aside := by
  unfold State.removeFault
  split
  · rfl
  · dsimp only
    split <;> rfl

theorem progressFault_aside (n x : Nat) (s : State) : (progressFault n x s).aside = s.aside := by
  induction n generalizing x s with
  | zero => rfl
  | succ n ih =>
    rw [progressFault]
    split
    · rfl
    · split
      · rfl
      · dsimp only
        split
        · split
          · exact (State.removeFault_aside ..).trans ((ih ..).trans (State.offerHeld_aside ..))
          · exact (State.removeFault_aside ..).trans ((State.offerClosed_aside ..).trans (State.offerHeld_aside ..))
        · rfl

theorem State.units_of_aside {s t : State} (h : t.aside = s.aside) : t.units = s.units :=
  (congrArg (fun x : State => x.units) h :)

theorem State.learned_of_aside {s t : State} (h : t.aside = s.aside) : t.learned = s.learned :=
  (congrArg (fun x : State => x.learned) h :)

/-! ## Records that go, with their windows (R131) -/

/-- `t` is `s` after some records have gone: no other is renamed, the window of the subject of each of these is QUIET,
and no other window has changed. -/
structure State.Wanes (s t : State) : Prop where
  kept   : t.kept = s.kept
  named  : ∀ y, t.named y = s.named y ∨ t.named y = none
  window : ∀ i, t.windowOf i = s.windowOf i ∨ t.windowOf i = .quiet ∧
    ∃ y k, s.windowOf i = .decided y ∧ s.named y = some (k, i) ∧ t.named y = none
  gone   : ∀ y k i, s.named y = some (k, i) → t.named y = none → k.onDomain = true → s.windowOf i = .decided y →
    t.windowOf i = .quiet

theorem State.named_eq_none {s : State} {y : Nat} : s.named y = none ↔ s.fault? y = none := Option.map_eq_none_iff

theorem State.named_of_fault? {s : State} {y : Nat} {f : FaultRecord} (h : s.fault? y = some f) :
    s.named y = some (f.kind, f.subject) := by rw [State.named, h, Option.map_some]

theorem State.Wanes.of_same {s t : State} (hkept : t.kept = s.kept) (hnamed : ∀ y, t.named y = s.named y)
    (hwindow : ∀ i, t.windowOf i = s.windowOf i) : s.Wanes t where
  kept := hkept
  named := fun y => .inl (hnamed y)
  window := fun i => .inl (hwindow i)
  gone := fun y k i hy hgone => by rw [hnamed, hy] at hgone; cases hgone

theorem State.Wanes.refl (s : State) : s.Wanes s := .of_same rfl (fun _ => rfl) fun _ => rfl

theorem State.Wanes.trans {s t u : State} (h : s.Wanes t) (g : t.Wanes u) : s.Wanes u where
  kept := g.kept.trans h.kept
  named := fun y => by
    rcases g.named y with hu | hu
    · exact (h.named y).imp hu.trans hu.trans
    · exact .inr hu
  window := fun i => by
    rcases g.window i with hu | ⟨hu, y, k, hw, hy, hgone⟩
    · rcases h.window i with ht | ⟨ht, y, k, hw, hy, hgone⟩
      · exact .inl (hu.trans ht)
      · refine .inr ⟨hu.trans ht, y, k, hw, hy, ?_⟩
        exact (g.named y).elim (fun hsame => hsame.trans hgone) id
    · rcases h.window i with ht | ⟨ht, -⟩
      · refine .inr ⟨hu, y, k, ht.symm.trans hw, ?_, hgone⟩
        exact (h.named y).elim (fun hsame => hsame.symm.trans hy) fun hnone => by rw [hnone] at hy; cases hy
      · rw [ht] at hw; cases hw
  gone := fun y k i hy hgone hon hw => by
    have hquiet : t.windowOf i = .quiet → u.windowOf i = .quiet := fun ht =>
      (g.window i).elim (fun hsame => hsame.trans ht) fun hgoes => hgoes.1
    rcases h.window i with ht | ⟨ht, -⟩
    · rcases h.named y with hsame | hnone
      · exact g.gone y k i (hsame.trans hy) hgone hon (ht.trans hw)
      · exact hquiet (h.gone y k i hy hnone hon hw)
    · exact hquiet ht

theorem State.Wanes.fault?_none {s t : State} (h : s.Wanes t) {y : Nat} (hy : s.fault? y = none) : t.fault? y = none := by
  rw [← State.named_eq_none] at hy ⊢
  exact (h.named y).elim (fun hsame => hsame.trans hy) id

/-- The subject of a record that has gone is QUIET where it was DECIDED. -/
theorem State.Wanes.quiet {s t : State} (h : s.Wanes t) {y : Nat} {f : FaultRecord} (hy : s.fault? y = some f)
    (hgone : t.fault? y = none) (hon : f.kind.onDomain = true) (hw : s.windowOf f.subject = .decided y) :
    t.windowOf f.subject = .quiet :=
  h.gone y f.kind f.subject (State.named_of_fault? hy) (State.named_eq_none.mpr hgone) hon hw

theorem State.removeFault_named (s : State) (x y : Nat) :
    (s.removeFault x).named y = if y = x then none else s.named y := by
  rw [State.named, State.removeFault_fault?]
  split <;> rfl

theorem State.removeFault_wanes (s : State) (x : Nat) : s.Wanes (s.removeFault x) := by
  cases hx : s.fault? x with
  | none =>
    rw [State.removeFault_of_none hx]
    exact State.Wanes.refl s
  | some f =>
    refine ⟨s.removeFault_kept x, fun y => ?_, fun i => ?_, fun y k i hy hgone hon hw => ?_⟩
    · rw [State.removeFault_named]
      split
      · exact .inr rfl
      · exact .inl rfl
    · rw [State.removeFault_windowOf hx]
      split
      · next hc =>
        obtain ⟨-, rfl, hw⟩ := hc
        exact .inr ⟨rfl, x, f.kind, hw, State.named_of_fault? hx, by simp [State.removeFault_named]⟩
      · exact .inl rfl
    · rw [State.removeFault_named] at hgone
      split at hgone
      · next hyx =>
        subst hyx
        rw [State.named_of_fault? hx, Option.some.injEq, Prod.mk.injEq] at hy
        obtain ⟨rfl, rfl⟩ := hy
        rw [State.removeFault_windowOf hx, if_pos ⟨hon, rfl, hw⟩]
      · rw [hy] at hgone; cases hgone

theorem State.named_of_ties {s t : State} (h : t.ties = s.ties) (y : Nat) : t.named y = s.named y := by
  have hname : ∀ x : State, x.named y = (x.core? y).map fun c => (c.kind, c.subject) := fun x => by
    rw [State.core?_eq, Option.map_map]; rfl
  rw [hname, hname, State.core?_of_ties h]

theorem State.Wanes.of_ties {s t : State} (hkept : t.kept = s.kept) (h : t.ties = s.ties) : s.Wanes t :=
  .of_same hkept (State.named_of_ties h) (State.windowOf_of_ties h)

theorem State.offerHeld_wanes (s : State) (x : Nat) : s.Wanes (s.offerHeld x) :=
  .of_ties (s.offerHeld_kept x) (s.offerHeld_ties x)

theorem State.offerClosed_wanes (s : State) (x : Nat) (r : CloseReason) (a b : Nat) : s.Wanes (s.offerClosed x r a b) :=
  .of_ties (s.offerClosed_kept x r a b) (s.offerClosed_ties x r a b)

theorem State.modFault_wanes (s : State) (x : Nat) {f : FaultRecord → FaultRecord}
    (hf : ∀ r, ((f r).kind, (f r).subject) = (r.kind, r.subject)) : s.Wanes (s.modFault x f) :=
  .of_same rfl (s.modFault_named x hf) fun _ => rfl

theorem progressFault_wanes (n x : Nat) (s : State) : s.Wanes (progressFault n x s) := by
  induction n generalizing x s with
  | zero => exact State.Wanes.refl s
  | succ n ih =>
    have hmarked : s.Wanes (s.modFault x s.progressed) := s.modFault_wanes x fun _ => rfl
    have hheld := hmarked.trans (State.offerHeld_wanes _ x)
    rw [progressFault]
    split
    · exact State.Wanes.refl s
    · split
      · exact State.Wanes.refl s
      · dsimp only
        split
        · split
          · next p _ =>
            have hdropped := hheld.trans (State.modFault_wanes _ p (f := fun f => { f with children := f.children - 1 })
              fun _ => rfl)
            exact (hdropped.trans (ih ..)).trans (State.removeFault_wanes ..)
          · exact (hheld.trans (State.offerClosed_wanes ..)).trans (State.removeFault_wanes ..)
        · exact hmarked

/-! ## The climb of the clearing rule (R137, R139) -/

section Climb

variable {s : State} {x : Nat} {f : FaultRecord}

theorem State.fault?_lt_fuel (h : s.fault? x = some f) : ∃ n, s.faults.length + 1 = n + 2 := by
  have hmem := Table.mem_of_get? h
  exact ⟨s.faults.length - 1, by have := List.length_pos_of_mem hmem; omega⟩

/-- A record that has something left makes progress alone (R137). -/
theorem progressFault_of_more (n : Nat) (hx : s.fault? x = some f) (hkind : f.kind ≠ .unitLost)
    (hmore : 0 < f.off ∨ 0 < f.children) : progressFault (n + 1) x s = s.modFault x s.progressed := by
  have hnot : ¬ (f.off = 0 ∧ f.children = 0) := by omega
  simp only [progressFault, hx, hkind, hnot, if_false]
  rfl

/-- A top record with nothing left goes, with its FAULT_CLOSED (R139). -/
theorem progressFault_of_top (n : Nat) (hx : s.fault? x = some f) (hkind : f.kind ≠ .unitLost) (hoff : f.off = 0)
    (hchildren : f.children = 0) (htop : f.parent = none) : progressFault (n + 1) x s =
      (((s.modFault x s.progressed).offerHeld x).offerClosed x .cleared 0 0).removeFault x := by
  simp only [progressFault, hx, hkind, if_false, hoff, hchildren, and_self, if_true, htop]
  rfl

/-- A linked record with nothing left goes after its parent has lost a child and made progress (R139). -/
theorem progressFault_of_linked (n : Nat) (hx : s.fault? x = some f) (hkind : f.kind ≠ .unitLost) (hoff : f.off = 0)
    (hchildren : f.children = 0) {p : Nat} (hp : f.parent = some p) : progressFault (n + 1) x s =
      (progressFault n p (((s.modFault x s.progressed).offerHeld x).dropChild p)).removeFault x := by
  simp only [progressFault, hx, hkind, if_false, hoff, hchildren, and_self, if_true, hp]
  rfl

/-- A record with nothing left goes. -/
theorem progressFault_gone (n : Nat) (hx : s.fault? x = some f) (hkind : f.kind ≠ .unitLost) (hoff : f.off = 0)
    (hchildren : f.children = 0) : (progressFault (n + 1) x s).fault? x = none := by
  cases hp : f.parent with
  | none =>
    rw [progressFault_of_top n hx hkind hoff hchildren hp, State.removeFault_fault?, if_pos rfl]
  | some p =>
    rw [progressFault_of_linked n hx hkind hoff hchildren hp, State.removeFault_fault?, if_pos rfl]

/-- With a held notice cleared, the one notice of a top record that goes is its FAULT_CLOSED. -/
theorem progressFault_notices_of_top (n : Nat) (hx : s.fault? x = some f) (hkind : f.kind ≠ .unitLost) (hoff : f.off = 0)
    (hchildren : f.children = 0) (htop : f.parent = none) (hheld : f.held = false) :
    (progressFault (n + 1) x s).notices = (s.offer .info (.faultClosed x f.kind (s.faultSubject f.kind f.subject)
      .cleared false f.openedAt f.affected 0 0 f.acked f.reminders)).notices := by
  have hmarked : (s.modFault x s.progressed).fault? x = some (s.progressed f) := by
    rw [State.modFault_fault?, if_pos rfl, hx, Option.map_some]
  rw [progressFault_of_top n hx hkind hoff hchildren htop, State.removeFault_notices,
    State.offerHeld_of_clear hmarked hheld]
  exact State.offerClosed_notices (s := s) (t := s.modFault x s.progressed) rfl rfl hmarked .cleared 0 0

end Climb

/-! ## A parent that loses a child (R136, R137, R139) -/

theorem State.modFault_modFault (s : State) (x : Nat) (f g : FaultRecord → FaultRecord) :
    (s.modFault x f).modFault x g = s.modFault x fun r => g (f r) := by
  have hfaults : Table.modify (Table.modify s.faults x f) x g = Table.modify s.faults x fun r => g (f r) := by
    simp only [Table.modify, List.map_map]
    refine List.map_congr_left fun e _ => ?_
    by_cases he : e.1 = x <;> simp [he]
  rw [State.modFault, State.modFault_faults, hfaults]
  rfl

/-- A record with one child less. -/
def FaultRecord.orphaned (f : FaultRecord) : FaultRecord := { f with children := f.children - 1 }

theorem State.dropChild_eq (s : State) (p : Nat) : s.dropChild p = s.modFault p FaultRecord.orphaned := rfl

theorem State.dropChild_fault?_self {s : State} {p : Nat} {q : FaultRecord} (hq : s.fault? p = some q) :
    (s.dropChild p).fault? p = some q.orphaned := by
  rw [State.dropChild_eq, State.modFault_fault?, if_pos rfl, hq, Option.map_some]

section Orphan

variable {s : State} {p : Nat} {q : FaultRecord} (n : Nat) (hq : s.fault? p = some q) (hkind : q.kind ≠ .unitLost)
include hq hkind

/-- With something left, the parent loses the child and makes progress, and that is all. -/
theorem State.orphan_stays (hmore : 0 < q.off ∨ 1 < q.children) :
    progressFault (n + 1) p (s.dropChild p) = s.modFault p fun f => s.progressed f.orphaned := by
  have hmore' : 0 < q.orphaned.off ∨ 0 < q.orphaned.children := by
    simp only [FaultRecord.orphaned]
    omega
  rw [progressFault_of_more n (State.dropChild_fault?_self hq) hkind hmore', State.dropChild_eq,
    State.modFault_modFault]
  rfl

/-- With nothing left, the parent goes too. -/
theorem State.orphan_gone (hoff : q.off = 0) (hchildren : q.children ≤ 1) :
    (progressFault (n + 1) p (s.dropChild p)).fault? p = none :=
  progressFault_gone n (State.dropChild_fault?_self hq) hkind hoff (Nat.sub_eq_zero_of_le hchildren)

/-- A parent at the top that goes offers its FAULT_CLOSED, and nothing else where its notice is not held. -/
theorem State.orphan_notices (hoff : q.off = 0) (hchildren : q.children ≤ 1) (htop : q.parent = none)
    (hheld : q.held = false) : (progressFault (n + 1) p (s.dropChild p)).notices =
      (s.offer .info (.faultClosed p q.kind (s.faultSubject q.kind q.subject) .cleared false q.openedAt q.affected 0 0
        q.acked q.reminders)).notices :=
  progressFault_notices_of_top (f := q.orphaned) n (State.dropChild_fault?_self hq) hkind hoff (Nat.sub_eq_zero_of_le hchildren) htop
    hheld

end Orphan

end Sys2Proof.Machine

/-! The timers of a terminal entry (R90, R91) and O59. -/

namespace Sys2Proof.Machine

theorem State.unlessHalted_of_running {s : State} (h : s.halted = false) (f : State → State) : s.unlessHalted f = f s := by
  simp [State.unlessHalted, h]

section Settled

variable (s : State)

theorem State.settle_term? (a : Nat) : s.settle.term? a = s.term? a := State.term?_of_ties s.settle_ties a
theorem State.settle_windowOf (i : Nat) : s.settle.windowOf i = s.windowOf i := State.windowOf_of_ties s.settle_ties i
theorem State.settle_domains : s.settle.domains = s.domains := State.domains_of_still s.settle_still
theorem State.settle_faults : s.settle.faults = s.faults := State.faults_of_still s.settle_still
theorem State.settle_fault? (x : Nat) : s.settle.fault? x = s.fault? x := by
  rw [State.fault?, State.settle_faults]; rfl
theorem State.settle_notices : s.settle.notices.still = s.notices.still := State.notices_of_still s.settle_still

end Settled

/-! ## The gasp hold (R90) -/

theorem State.offerWatch_terms (s : State) (a : Nat) (k : WatchKind) (u : Uptime) : (s.offerWatch a k u).terms = s.terms :=
  State.terms_of_ties (s.offerWatch_ties a k u)

theorem State.offerWatch_faults (s : State) (a : Nat) (k : WatchKind) (u : Uptime) :
    (s.offerWatch a k u).faults = s.faults := by
  unfold State.offerWatch
  split
  · rfl
  · split <;> rfl

/-- An entry whose gasp hold has expired (R90). -/
def Terminal.gaspOver (e : Terminal) (now : Uptime) : Terminal :=
  { (e.enter .lit).stamp now with gaspHold := none, gaspRecovered := inc8 e.gaspRecovered }

theorem State.gaspHoldExpires_of_due {s : State} {a : Nat} {e : Terminal} (ha : s.term? a = some e)
    (hst : e.state = .gasped) (hdue : e.gaspHold = some 0) : s.gaspHoldExpires a =
      (s.modTerm a fun t => t.gaspOver s.now).offerWatch a (.gaspRecovered (inc8 e.gaspRecovered)) s.now := by
  simp only [State.gaspHoldExpires, ha, hst, hdue, and_self, if_true]
  rfl

/-- WATCH of the entry as the expiry leaves it (R105). -/
theorem State.gaspOver_notices {s : State} {a : Nat} {e : Terminal} (ha : s.term? a = some e) (k : WatchKind) :
    ((s.modTerm a fun t => t.gaspOver s.now).offerWatch a k s.now).notices =
      (if e.prov.watch = true ∧ e.prov.masked = false then s.offer .info (.watch a e.prov.label k .lit s.clock.uptime)
        else s).notices := by
  have hlit : (s.modTerm a fun t => t.gaspOver s.now).term? a = some (e.gaspOver s.now) := by
    rw [State.modTerm_term?, if_pos rfl, ha, Option.map_some]
  rw [State.offerWatch, hlit]
  by_cases hwatch : e.prov.watch = true ∧ e.prov.masked = false
  · have hoffers : ((e.gaspOver s.now).prov.watch && !(e.gaspOver s.now).prov.masked) = true := by
      simpa [Terminal.gaspOver] using hwatch
    rw [if_pos hwatch]
    dsimp only
    rw [if_pos hoffers]
    rfl
  · have hsilent : ¬ ((e.gaspOver s.now).prov.watch && !(e.gaspOver s.now).prov.masked) = true := by
      simpa [Terminal.gaspOver] using hwatch
    rw [if_neg hwatch]
    dsimp only
    rw [if_neg hsilent]
    rfl

/-! ## The hold-down of an unfolded entry (R91, R104) -/

theorem State.holdDownExpires_of_due {s : State} {a : Nat} {e : Terminal} (ha : s.term? a = some e)
    (hst : e.state = .restoring) (hdue : e.holdDown = some 0) :
    s.holdDownExpires a = s.restoreTerm a e .holdDown := by
  simp only [State.holdDownExpires, ha, hst, hdue, and_self, if_true]

theorem State.offerRestored_frame (s : State) (a : Nat) (e : Terminal) (p : RestorePath) :
    (s.offerRestored a e p).terms = s.terms ∧ (s.offerRestored a e p).domains = s.domains ∧
      (s.offerRestored a e p).faults = s.faults := by
  unfold State.offerRestored
  split <;> exact ⟨rfl, rfl, rfl⟩

/-- TERMINAL_RESTORED after a hold-down carries the time of the first dark (R104, assumption 39). -/
theorem State.restored_notices (s : State) (a : Nat) {e : Terminal} (hlink : e.link = none)
    (hst : e.state = .restoring) (g : Terminal → Terminal) : ((s.modTerm a g).offerRestored a e .holdDown).notices =
      (if e.reported = true ∧ e.prov.notify = true ∧ e.prov.masked = false then
        s.offer .info (.terminalRestored a e.prov.label e.lastCause e.offSince .holdDown e.flaps) else s).notices := by
  have htime : e.offTime = e.offSince := if_pos hst
  by_cases hoffer : e.reported = true ∧ e.prov.notify = true ∧ e.prov.masked = false
  · have hoffers : (!e.folded && e.reported && e.prov.notify && !e.prov.masked) = true := by
      simpa [Terminal.folded, hlink, and_assoc] using hoffer
    rw [if_pos hoffer, State.offerRestored, if_pos hoffers, htime]
    rfl
  · have hsilent : ¬ (!e.folded && e.reported && e.prov.notify && !e.prov.masked) = true := by
      simpa [Terminal.folded, hlink, and_assoc] using hoffer
    rw [if_neg hoffer, State.offerRestored, if_neg hsilent]
    rfl

/-! ## A record that a restore leaves (R135, R137, R139) -/

/-- A record with one off terminal less. -/
def FaultRecord.restored (f : FaultRecord) : FaultRecord := { f with off := f.off - 1 }

section Restore

variable {s : State} {x : Nat} {f : FaultRecord}

/-- The restore of a linked entry: its record loses an off terminal and makes progress. -/
theorem State.faultRestore_eq (s : State) (x : Nat) : s.faultRestore x =
    progressFault (s.faults.length + 1) x (s.modFault x FaultRecord.restored) := by
  have hlength : (s.modFault x FaultRecord.restored).faults.length = s.faults.length := Table.length_modify ..
  rw [← hlength]
  rfl

theorem State.restored_fault? (hx : s.fault? x = some f) :
    (s.modFault x FaultRecord.restored).fault? x = some f.restored := by
  rw [State.modFault_fault?, if_pos rfl, hx, Option.map_some]

/-- A record with off terminals or children left makes progress, and that is all. -/
theorem State.faultRestore_of_more (hx : s.fault? x = some f) (hkind : f.kind ≠ .unitLost)
    (hmore : 1 < f.off ∨ 0 < f.children) : s.faultRestore x = s.modFault x fun f => s.progressed f.restored := by
  have hmore' : 0 < f.restored.off ∨ 0 < f.restored.children := by
    simp only [FaultRecord.restored]
    omega
  rw [State.faultRestore_eq, progressFault_of_more _ (State.restored_fault? hx) hkind hmore', State.modFault_modFault]
  rfl

/-- The state in which a record with nothing left is about to go: marked, with a held notice offered. -/
def State.spent (s : State) (x : Nat) : State := (s.modFault x fun f => s.progressed f.restored).offerHeld x

theorem State.spent_fault?_ne (s : State) {x y : Nat} (hy : y ≠ x) : (s.spent x).fault? y = s.fault? y := by
  rw [State.spent, State.offerHeld_fault?_ne _ hy, State.modFault_fault?, if_neg hy]

theorem State.spent_wanes (s : State) (x : Nat) : s.Wanes (s.spent x) :=
  (s.modFault_wanes x (f := fun f => s.progressed f.restored) fun _ => rfl).trans (State.offerHeld_wanes ..)

theorem State.spent_notices (hx : s.fault? x = some f) (hheld : f.held = false) : (s.spent x).notices = s.notices := by
  have hmarked : (s.modFault x fun f => s.progressed f.restored).fault? x = some (s.progressed f.restored) := by
    rw [State.modFault_fault?, if_pos rfl, hx, Option.map_some]
  rw [State.spent, State.offerHeld_of_clear hmarked hheld]
  rfl

section Spent

variable (hx : s.fault? x = some f) (hkind : f.kind ≠ .unitLost) (hoff : f.off ≤ 1) (hchildren : f.children = 0)
include hx hkind hoff hchildren

theorem State.faultRestore_gone : (s.faultRestore x).fault? x = none := by
  rw [State.faultRestore_eq]
  exact progressFault_gone _ (State.restored_fault? hx) hkind (Nat.sub_eq_zero_of_le hoff) hchildren

theorem State.faultRestore_of_top (htop : f.parent = none) :
    s.faultRestore x = ((s.spent x).offerClosed x .cleared 0 0).removeFault x := by
  rw [State.faultRestore_eq, progressFault_of_top _ (State.restored_fault? hx) hkind (Nat.sub_eq_zero_of_le hoff)
    hchildren htop, State.modFault_modFault]
  rfl

theorem State.faultRestore_notices (htop : f.parent = none) (hheld : f.held = false) : (s.faultRestore x).notices =
    (s.offer .info (.faultClosed x f.kind (s.faultSubject f.kind f.subject) .cleared false f.openedAt f.affected 0 0
      f.acked f.reminders)).notices := by
  rw [State.faultRestore_eq]
  exact progressFault_notices_of_top (f := f.restored) _ (State.restored_fault? hx) hkind (Nat.sub_eq_zero_of_le hoff) hchildren htop hheld

theorem State.faultRestore_of_linked {p : Nat} (hp : f.parent = some p) : ∃ n,
    s.faultRestore x = (progressFault (n + 1) p ((s.spent x).dropChild p)).removeFault x := by
  obtain ⟨n, hn⟩ := State.fault?_lt_fuel hx
  refine ⟨n, ?_⟩
  rw [State.faultRestore_eq, hn, progressFault_of_linked _ (State.restored_fault? hx) hkind (Nat.sub_eq_zero_of_le hoff)
    hchildren hp, State.modFault_modFault]
  rfl

end Spent

end Restore

theorem State.faultRestore_wanes (s : State) (x : Nat) : s.Wanes (s.faultRestore x) :=
  s.faultRestore_eq x ▸ (s.modFault_wanes x (f := FaultRecord.restored) fun _ => rfl).trans (progressFault_wanes ..)

theorem State.faultRestore_terms (s : State) (x : Nat) : (s.faultRestore x).terms = s.terms := by
  rw [State.faultRestore_eq, progressFault_terms]
  rfl

/-! ## The parent of a record that a restore empties -/

section Parent

variable {s : State} {x p : Nat} {f q : FaultRecord} (hx : s.fault? x = some f) (hkind : f.kind ≠ .unitLost)
  (hoff : f.off ≤ 1) (hchildren : f.children = 0) (hp : f.parent = some p) (hpx : p ≠ x) (hq : s.fault? p = some q)
  (hqkind : q.kind ≠ .unitLost)
include hx hkind hoff hchildren hp hpx hq hqkind

theorem State.faultRestore_of_parent_stays (hmore : 0 < q.off ∨ 1 < q.children) :
    s.faultRestore x = ((s.spent x).modFault p fun f => (s.spent x).progressed f.orphaned).removeFault x := by
  obtain ⟨n, hn⟩ := State.faultRestore_of_linked hx hkind hoff hchildren hp
  rw [hn, State.orphan_stays n ((s.spent_fault?_ne hpx).trans hq) hqkind hmore]

theorem State.faultRestore_parent_stays (hmore : 0 < q.off ∨ 1 < q.children) (y : Nat) :
    (s.faultRestore x).fault? y =
      if y = x then none else if y = p then some (s.progressed q.orphaned) else s.fault? y := by
  have hprogressed := State.progressed_of_kept (s.spent_wanes x).kept q.orphaned
  rw [State.faultRestore_of_parent_stays hx hkind hoff hchildren hp hpx hq hqkind hmore, State.removeFault_fault?,
    State.modFault_fault?]
  by_cases hyx : y = x
  · rw [if_pos hyx, if_pos hyx]
  · rw [if_neg hyx, if_neg hyx, s.spent_fault?_ne hyx]
    by_cases hyp : y = p
    · rw [if_pos hyp, if_pos hyp, hyp, hq, Option.map_some, hprogressed]
    · rw [if_neg hyp, if_neg hyp]

theorem State.faultRestore_parent_stays_notices (hmore : 0 < q.off ∨ 1 < q.children) (hheld : f.held = false) :
    (s.faultRestore x).notices = s.notices := by
  rw [State.faultRestore_of_parent_stays hx hkind hoff hchildren hp hpx hq hqkind hmore, State.removeFault_notices,
    State.modFault_notices, State.spent_notices hx hheld]

theorem State.faultRestore_parent_gone (hqoff : q.off = 0) (hqchildren : q.children ≤ 1) :
    (s.faultRestore x).fault? p = none := by
  obtain ⟨n, hn⟩ := State.faultRestore_of_linked hx hkind hoff hchildren hp
  rw [hn]
  exact (State.removeFault_wanes ..).fault?_none
    (State.orphan_gone n ((s.spent_fault?_ne hpx).trans hq) hqkind hqoff hqchildren)

theorem State.faultRestore_parent_gone_notices (hqoff : q.off = 0) (hqchildren : q.children ≤ 1)
    (htop : q.parent = none) (hheld : f.held = false) (hqheld : q.held = false) : (s.faultRestore x).notices =
      (s.offer .info (.faultClosed p q.kind (s.faultSubject q.kind q.subject) .cleared false q.openedAt q.affected 0 0
        q.acked q.reminders)).notices := by
  have hkept := (s.spent_wanes x).kept
  obtain ⟨n, hn⟩ := State.faultRestore_of_linked hx hkind hoff hchildren hp
  rw [hn, State.removeFault_notices,
    State.orphan_notices n ((s.spent_fault?_ne hpx).trans hq) hqkind hqoff hqchildren htop hqheld,
    State.faultSubject_of_kept hkept, State.offer_notices_of_kept hkept (State.spent_notices hx hheld)]

end Parent

/-- A top record that a restore empties goes alone. -/
theorem State.faultRestore_top_fault?_ne {s : State} {x : Nat} {f : FaultRecord} (hx : s.fault? x = some f)
    (hkind : f.kind ≠ .unitLost) (hoff : f.off ≤ 1) (hchildren : f.children = 0) (htop : f.parent = none) {y : Nat}
    (hy : y ≠ x) : (s.faultRestore x).fault? y = s.fault? y := by
  rw [State.faultRestore_of_top hx hkind hoff hchildren htop, State.removeFault_fault?, if_neg hy,
    State.offerClosed_fault?, s.spent_fault?_ne hy]

/-! ## The restore of an entry (R104, R135) -/

section RestoreTerm

variable (s : State) (a : Nat) (e : Terminal) (p : RestorePath)

theorem State.restoreTerm_of_linked {x : Nat} (h : e.link = some x) :
    s.restoreTerm a e p = (s.modTerm a fun t => t.restored s.now).faultRestore x := by
  rw [State.restoreTerm_eq, h]
  rfl

theorem State.restoreTerm_of_unlinked (h : e.link = none) :
    s.restoreTerm a e p = (s.modTerm a fun t => t.restored s.now).offerRestored a e p := by
  rw [State.restoreTerm_eq, h]

theorem State.restoreTerm_term? (b : Nat) : (s.restoreTerm a e p).term? b =
    if b = a then (s.term? b).map fun t => t.restored s.now else s.term? b := by
  have hterms : (s.restoreTerm a e p).terms = (s.modTerm a fun t => t.restored s.now).terms := by
    cases h : e.link with
    | some x => rw [s.restoreTerm_of_linked a e p h, State.faultRestore_terms]
    | none =>
      rw [s.restoreTerm_of_unlinked a e p h]
      exact (State.offerRestored_frame ..).1
  rw [State.term?, hterms]
  exact s.modTerm_term? ..

end RestoreTerm

/-- Settles O59: the gasp hold by its one entry and its WATCH, the hold-down by its entry and, where this is folded, by
what is left to its record and to the record's parent. -/
theorem terminalTimersExpire : Obligations.TerminalTimersExpire := by
  intro s a e hrun ha
  refine ⟨fun hst hdue => ?gasp, fun hst hdue => ?holdDown⟩
  case gasp =>
    refine ⟨_, rfl, ?_⟩
    rw [State.unlessHalted_of_running hrun, State.gaspHoldExpires_of_due ha hst hdue]
    have hterm : ∀ b, (((s.modTerm a.toNat fun t => t.gaspOver s.now).offerWatch a.toNat
        (.gaspRecovered (inc8 e.gaspRecovered)) s.now).settle).term? b =
          if b = a.toNat then (s.term? b).map fun t => t.gaspOver s.now else s.term? b := fun b => by
      rw [State.settle_term?, State.term?, State.offerWatch_terms]
      exact s.modTerm_term? ..
    refine ⟨?_, fun b hb => ?_, ?_, ?_, ?_⟩
    · rw [hterm, if_pos rfl, ha]
      rfl
    · rw [hterm, if_neg hb]
    · rw [State.settle_domains, State.domains_of_ties (State.offerWatch_ties ..)]
      rfl
    · rw [State.settle_faults, State.offerWatch_faults]
      rfl
    · rw [State.settle_notices, State.gaspOver_notices ha]
      rfl
  case holdDown =>
    refine ⟨_, rfl, ?_⟩
    rw [State.unlessHalted_of_running hrun, State.holdDownExpires_of_due ha hst hdue]
    refine ⟨?_, fun b hb => ?_, fun hlink => ?_, fun x f hlink hx hkind _ => ?_⟩
    · rw [State.settle_term?, State.restoreTerm_term?, if_pos rfl, ha]
      rfl
    · rw [State.settle_term?, State.restoreTerm_term?, if_neg hb]
    · rw [State.restoreTerm_of_unlinked s a.toNat e _ hlink]
      obtain ⟨-, hdomains, hfaults⟩ :=
        (s.modTerm a.toNat fun t => t.restored s.now).offerRestored_frame a.toNat e .holdDown
      exact ⟨(State.settle_faults _).trans hfaults, (State.settle_domains _).trans hdomains,
        (State.settle_notices _).trans (congrArg NoticeQueues.still (s.restored_notices a.toNat hlink hst _))⟩
    · rw [State.restoreTerm_of_linked s a.toNat e _ hlink]
      generalize hu : s.modTerm a.toNat (fun t => t.restored s.now) = u
      have hkept : u.kept = s.kept := hu ▸ s.modTerm_kept _ _ fun _ => rfl
      have hnotices : u.notices = s.notices := hu ▸ rfl
      have hfault : ∀ y, u.fault? y = s.fault? y := fun y => hu ▸ rfl
      have hwindow : ∀ i, u.windowOf i = s.windowOf i := fun i => hu ▸ rfl
      have hdomains : u.domains = s.domains := hu ▸ rfl
      have hux := (hfault x).trans hx
      have hprogressed := State.progressed_of_kept hkept
      have hoffer := State.offer_notices_of_kept hkept hnotices
      have hsubject := State.faultSubject_of_kept hkept
      simp only [State.settle_fault?, State.settle_windowOf, State.settle_domains, State.settle_notices]
      refine ⟨fun hmore => ?more, fun hoff hchildren => ⟨?gone, fun hon hw => ?quiet, fun htop => ⟨fun y hy => ?others,
        fun hheld => ?closed⟩, fun p q hp hpx hq hqkind => ?parent⟩⟩
      case more =>
        rw [State.faultRestore_of_more hux hkind hmore]
        refine ⟨?_, fun y hy => ?_, hdomains, congrArg NoticeQueues.still hnotices⟩
        · rw [State.modFault_fault?, if_pos rfl, hux, Option.map_some, hprogressed]
          rfl
        · rw [State.modFault_fault?, if_neg hy, hfault]
      case gone => exact State.faultRestore_gone hux hkind hoff hchildren
      case quiet =>
        exact (u.faultRestore_wanes x).quiet hux (State.faultRestore_gone hux hkind hoff hchildren) hon
          ((hwindow _).trans hw)
      case others => rw [State.faultRestore_top_fault?_ne hux hkind hoff hchildren htop hy, hfault]
      case closed =>
        rw [State.faultRestore_notices hux hkind hoff hchildren htop hheld, hoffer, hsubject]
      case parent =>
        have huq := (hfault p).trans hq
        refine ⟨fun hmore => ⟨?_, fun y hyx hyp => ?_, fun hheld => ?_⟩, fun hqoff hqchildren => ⟨?_,
          fun hqtop hheld hqheld => ?_⟩⟩
        · rw [State.faultRestore_parent_stays hux hkind hoff hchildren hp hpx huq hqkind hmore, if_neg hpx, if_pos rfl,
            hprogressed]
          rfl
        · rw [State.faultRestore_parent_stays hux hkind hoff hchildren hp hpx huq hqkind hmore, if_neg hyx, if_neg hyp,
            hfault]
        · rw [State.faultRestore_parent_stays_notices hux hkind hoff hchildren hp hpx huq hqkind hmore hheld, hnotices]
        · exact State.faultRestore_parent_gone hux hkind hoff hchildren hp hpx huq hqkind hqoff hqchildren
        · rw [State.faultRestore_parent_gone_notices hux hkind hoff hchildren hp hpx huq hqkind hqoff hqchildren hqtop
            hheld hqheld, hoffer, hsubject]

end Sys2Proof.Machine

/-! The clearing limit (R140) and the reminder of a record (R142), and O33. -/

namespace Sys2Proof.Machine

/-! ## Ids in order -/

theorem sortIds_rising (l : List Nat) : risingAddrs (sortIds l) = true := by
  induction l with
  | nil => rfl
  | cons a l ih => exact risingAddrs_insertAddr a ih

theorem nodup_sortIds (l : List Nat) : (sortIds l).Nodup :=
  ((risingAddrs_iff _).mp (sortIds_rising l)).imp fun hlt => Nat.ne_of_lt hlt

/-- Ids without a repetition keep their number in order. -/
theorem length_sortIds {l : List Nat} (h : l.Nodup) : (sortIds l).length = l.length :=
  ((List.perm_ext_iff_of_nodup (nodup_sortIds l) h).mpr fun a => mem_sortIds a l).length_eq

theorem State.nodup_childFaults {s : State} (hd : Table.distinct s.faults) (x : Nat) : (s.childFaults x).Nodup :=
  Table.nodup_keysWhere hd _

theorem State.nodup_linkedTerms {s : State} (hd : Table.distinct s.terms) (x : Nat) : (s.linkedTerms x).Nodup :=
  Table.nodup_keysWhere hd _

/-! ## Two runs that offer alike -/

/-- Two states that agree in what is provisioned and in their queues: an offer leaves them so. -/
def State.Alike (t u : State) : Prop := t.kept = u.kept ∧ t.notices = u.notices

theorem State.Alike.offer {t u : State} (h : t.Alike u) (c : NoticeClass) (b : NoticeBody) :
    (t.offer c b).Alike (u.offer c b) := ⟨h.1, State.offer_notices_of_kept h.1 h.2 c b⟩

/-- Two runs over the same keys offer alike where their changes do, while the first finds at each key what `get` reads
at the start. -/
theorem overKeys_alike {α : Type} {get : State → Nat → Option α} {f g : Nat → State → State} {s : State}
    (hstep : ∀ k t u, t.Alike u → get t k = get s k → (f k t).Alike (g k u))
    (hother : ∀ k t b, b ≠ k → get (f k t) b = get t b) {keys : List Nat} (hnodup : keys.Nodup) {t u : State}
    (halike : t.Alike u) (hget : ∀ k ∈ keys, get t k = get s k) : (overKeys keys f t).Alike (overKeys keys g u) := by
  induction keys generalizing t u with
  | nil => exact halike
  | cons k keys ih =>
    obtain ⟨hfresh, hrest⟩ := List.nodup_cons.mp hnodup
    refine ih hrest (hstep k t u halike (hget k (by simp))) fun b hb => ?_
    have hbk : b ≠ k := fun hbk => hfresh (hbk ▸ hb)
    rw [hother k t b hbk, hget b (by simp [hb])]

/-! ## What the freeing at a clearing limit offers (R96, R140) -/

theorem State.Alike.offerReleased {t u : State} (h : t.Alike u) (a : Nat) (e : Terminal) :
    (t.offerReleased a e).Alike (u.offerReleased a e) := by
  unfold State.offerReleased
  split
  · exact h
  · exact h.offer ..

theorem State.Alike.offerUnlinked {t u : State} (h : t.Alike u) (c : Nat) (g : FaultRecord) :
    (t.offerUnlinked c g).Alike (u.offerUnlinked c g) := by
  unfold State.offerUnlinked
  split
  · exact h
  · rw [State.faultClass_of_kept h.1, State.openedNotice_of_kept h.1]
    exact h.offer ..

/-- An unfold offers what the entry, as it stands before, gives. -/
theorem State.unfoldAtLimit_alike {s : State} {a : Nat} {e : Terminal} (ha : s.term? a = some e) :
    (s.unfoldAtLimit a).Alike (s.offerReleased a e) := by
  have hunlinked : (s.modTerm a fun t => { t with link := none }).term? a = some { e with link := none } := by
    rw [State.modTerm_term?, if_pos rfl, ha, Option.map_some]
  have hkept : (s.offerReleased a e).kept = s.kept := by
    unfold State.offerReleased
    split <;> rfl
  refine ⟨(s.unfoldAtLimit_kept a).trans hkept.symm, ?_⟩
  simp only [State.unfoldAtLimit, hunlinked, State.offerReleased, State.offerTerminalOff]
  by_cases hreported : e.reported = true
  · rw [if_pos hreported, if_pos (.inl hreported)]
    rfl
  · have hsilent : (e.prov.masked || ({ e with link := none } : Terminal).folded) = e.prov.masked := Bool.or_false _
    by_cases hmasked : e.prov.masked = true
    · rw [if_neg hreported, hsilent, if_pos hmasked, if_pos (.inr hmasked)]
      rfl
    · rw [if_neg hreported, hsilent, if_neg hmasked, if_neg (not_or.mpr ⟨hreported, hmasked⟩)]
      rfl

theorem State.unfoldAtLimit_of_none {s : State} {a : Nat} (ha : s.term? a = none) : (s.unfoldAtLimit a).Alike s := by
  have hunlinked : (s.modTerm a fun t => { t with link := none }).term? a = none := by
    rw [State.modTerm_term?, if_pos rfl, ha, Option.map_none]
  refine ⟨s.unfoldAtLimit_kept a, ?_⟩
  simp only [State.unfoldAtLimit, hunlinked]
  rfl

/-- An unlink offers what the record, as it stands before, gives. -/
theorem State.unlinkChild_alike {s : State} {c : Nat} {g : FaultRecord} (hc : s.fault? c = some g) :
    (s.unlinkChild c).Alike (s.offerUnlinked c g) := by
  have htop : (s.modFault c fun f => { f with parent := none }).fault? c = some { g with parent := none } := by
    rw [State.modFault_fault?, if_pos rfl, hc, Option.map_some]
  have hkept : (s.offerUnlinked c g).kept = s.kept := by
    unfold State.offerUnlinked
    split <;> rfl
  refine ⟨(s.unlinkChild_kept c).trans hkept.symm, ?_⟩
  simp only [State.unlinkChild, htop, State.offerUnlinked, State.offerOpened]
  by_cases hannounced : g.announced = true
  · rw [if_pos hannounced, if_pos hannounced]
    rfl
  · rw [if_neg hannounced, if_neg hannounced]
    rfl

theorem State.unlinkChild_of_none {s : State} {c : Nat} (hc : s.fault? c = none) : (s.unlinkChild c).Alike s := by
  have htop : (s.modFault c fun f => { f with parent := none }).fault? c = none := by
    rw [State.modFault_fault?, if_pos rfl, hc, Option.map_none]
  refine ⟨s.unlinkChild_kept c, ?_⟩
  simp only [State.unlinkChild, htop]
  rfl

theorem State.Alike.trans {s t u : State} (h : s.Alike t) (g : t.Alike u) : s.Alike u :=
  ⟨h.1.trans g.1, h.2.trans g.2⟩

/-- The freeing of the entries and children of a record offers what they give as they stand before. -/
theorem State.limitFreed_alike {s : State} (hterms : Table.distinct s.terms) (x : Nat) :
    (s.limitFreed x).Alike (s.limitOffers x) := by
  have hfaults := State.unfoldAtLimits_faults (s.linkedTerms x) s
  refine overKeys_alike (get := State.fault?) (s := s) (fun c t u h hget => ?_)
    (fun c t b hb => by rw [State.unlinkChild_fault?, if_neg hb]) (nodup_sortIds _) ?_
    fun c _ => by rw [State.fault?, hfaults]; rfl
  · cases hc : s.fault? c with
    | none => exact (State.unlinkChild_of_none (hget.trans hc)).trans h
    | some g => exact (State.unlinkChild_alike (hget.trans hc)).trans (h.offerUnlinked c g)
  · refine overKeys_alike (get := State.term?) (s := s) (fun a t u h hget => ?_)
      (fun a t b hb => by rw [State.unfoldAtLimit_term?, if_neg hb]) (State.nodup_linkedTerms hterms x) ⟨rfl, rfl⟩
      fun a _ => rfl
    cases ha : s.term? a with
    | none => exact (State.unfoldAtLimit_of_none (hget.trans ha)).trans h
    | some e => exact (State.unfoldAtLimit_alike (hget.trans ha)).trans (h.offerReleased a e)

/-! ## What the freeing leaves alone -/

theorem State.unfoldAtLimit_aside (s : State) (a : Nat) : (s.unfoldAtLimit a).aside = s.aside := by
  unfold State.unfoldAtLimit State.offerTerminalOff
  dsimp only
  split
  · rfl
  · split
    · rfl
    · split
      · rfl
      · split <;> rfl

theorem State.unlinkChild_aside (s : State) (c : Nat) : (s.unlinkChild c).aside = s.aside := by
  unfold State.unlinkChild
  dsimp only
  split
  · rfl
  · split
    · rfl
    · exact State.offerOpened_aside ..

theorem State.limitFreed_aside (s : State) (x : Nat) : (s.limitFreed x).aside = s.aside := by
  refine overKeys_keeps (f := fun c t => State.unlinkChild t c) (p := fun t : State => t.aside = s.aside)
    (fun c t h => (t.unlinkChild_aside c).trans h) _ _ ?_
  exact overKeys_keeps (f := fun a t => State.unfoldAtLimit t a) (p := fun t : State => t.aside = s.aside)
    (fun a t h => (t.unfoldAtLimit_aside a).trans h) _ _ rfl

theorem State.limitFreed_kept (s : State) (x : Nat) : (s.limitFreed x).kept = s.kept := by
  rw [State.limitFreed, overKeys_kept fun c t => t.unlinkChild_kept c, overKeys_kept fun a t => t.unfoldAtLimit_kept a]

theorem State.limitFreed_domains (s : State) (x : Nat) : (s.limitFreed x).domains = s.domains := by
  refine overKeys_keeps (f := fun c t => State.unlinkChild t c) (p := fun t : State => t.domains = s.domains)
    (fun c t h => (State.domains_of_ties (t.unlinkChild_ties c)).trans h) _ _ ?_
  exact overKeys_keeps (f := fun a t => State.unfoldAtLimit t a) (p := fun t : State => t.domains = s.domains)
    (fun a t h => (t.unfoldAtLimit_domains a).trans h) _ _ rfl

theorem State.limitFreed_named (s : State) (x y : Nat) : (s.limitFreed x).named y = s.named y := by
  rw [State.named, State.limitFreed_fault?]
  split
  · rw [Option.map_map]
    rfl
  · rfl

theorem State.limitFreed_wanes (s : State) (x : Nat) : s.Wanes (s.limitFreed x) :=
  .of_same (s.limitFreed_kept x) (s.limitFreed_named x) fun i => by
    rw [State.windowOf, State.domain?, State.limitFreed_domains]
    rfl

/-- What the freeing makes of the entries: those of the record are unfolded (R96). -/
theorem State.limitFreed_term? (s : State) (x a : Nat) : (s.limitFreed x).term? a =
    if a ∈ s.linkedTerms x then (s.term? a).map Terminal.released else s.term? a := by
  rw [State.term?, State.limitFreed, State.unlinkChildren_terms]
  exact overKeys_get (get := State.term?) (fun a t b => t.unfoldAtLimit_term? a b) Terminal.released_released _ s a

/-! ## The climb leaves what is not above it -/

/-- Where links make no ring, so they do in a state that has no other links. -/
theorem State.Ranked.of_parents {s t : State} {rank : Nat → Nat} (h : s.Ranked rank)
    (hparents : ∀ y g p, t.fault? y = some g → g.parent = some p → ∃ g₀, s.fault? y = some g₀ ∧ g₀.parent = some p) :
    t.Ranked rank := fun y g p hg hp => by
  obtain ⟨g₀, hg₀, hp₀⟩ := hparents y g p hg hp
  exact h y g₀ p hg₀ hp₀

theorem State.Ranked.modFault {s : State} {rank : Nat → Nat} (h : s.Ranked rank) (x : Nat)
    {f : FaultRecord → FaultRecord} (hf : ∀ g, (f g).parent = g.parent) : (s.modFault x f).Ranked rank :=
  h.of_parents fun y g p hg hp => by
    rw [State.modFault_fault?] at hg
    split at hg
    · obtain ⟨g₀, hg₀, rfl⟩ := Option.map_eq_some_iff.mp hg
      exact ⟨g₀, hg₀, (hf g₀).symm.trans hp⟩
    · exact ⟨g, hg, hp⟩

theorem State.Ranked.of_ties {s t : State} {rank : Nat → Nat} (h : s.Ranked rank) (e : t.ties = s.ties) :
    t.Ranked rank := h.of_parents fun y g p hg hp => by
  have hcore := State.core?_of_fault? hg
  rw [State.core?_of_ties e] at hcore
  obtain ⟨g₀, hg₀, hsame⟩ := State.core?_eq_some.mp hcore
  exact ⟨g₀, hg₀, (congrArg FaultCore.parent hsame).trans hp⟩

/-- The climb of the clearing rule changes no record of a higher rank than the one it begins at. -/
theorem progressFault_fault?_of_rank {rank : Nat → Nat} {n x y : Nat} {s : State} (h : s.Ranked rank)
    (hy : rank x < rank y) : (progressFault n x s).fault? y = s.fault? y := by
  induction n generalizing x s with
  | zero => rfl
  | succ n ih =>
    have hyx : y ≠ x := fun hyx => absurd hy (hyx ▸ lt_irrefl _)
    cases hx : s.fault? x with
    | none => rw [progressFault, hx]
    | some f =>
      by_cases hkind : f.kind = .unitLost
      · simp only [progressFault, hx, hkind, if_true]
      by_cases hmore : 0 < f.off ∨ 0 < f.children
      · rw [progressFault_of_more n hx hkind hmore, State.modFault_fault?, if_neg hyx]
      have hoff : f.off = 0 := by omega
      have hchildren : f.children = 0 := by omega
      have hmarked : ((s.modFault x s.progressed).offerHeld x).fault? y = s.fault? y := by
        rw [State.offerHeld_fault?_ne _ hyx, State.modFault_fault?, if_neg hyx]
      cases hp : f.parent with
      | none =>
        rw [progressFault_of_top n hx hkind hoff hchildren hp, State.removeFault_fault?, if_neg hyx,
          State.offerClosed_fault?, hmarked]
      | some p =>
        have hpy : rank p < rank y := (h x f p hx hp).trans hy
        have hyp : y ≠ p := fun hyp => absurd hpy (hyp ▸ lt_irrefl _)
        have hranked : (((s.modFault x s.progressed).offerHeld x).dropChild p).Ranked rank :=
          ((h.modFault x (f := s.progressed) fun _ => rfl).of_ties (State.offerHeld_ties ..)).modFault p
            (f := FaultRecord.orphaned) fun _ => rfl
        rw [progressFault_of_linked n hx hkind hoff hchildren hp, State.removeFault_fault?, if_neg hyx,
          ih hranked hpy, State.dropChild_fault?, if_neg hyp, hmarked]

/-! ## The record goes at its clearing limit (R140) -/

theorem State.removeFault_domain? {s : State} {x : Nat} {f : FaultRecord} (hx : s.fault? x = some f) {i : Nat}
    (hi : f.kind.onDomain = false ∨ i ≠ f.subject) : (s.removeFault x).domain? i = s.domain? i := by
  simp only [State.removeFault, hx]
  split
  · next hon =>
    rw [State.modDomain_domain?, if_neg (hi.resolve_left (by simp [hon]))]
    rfl
  · rfl

/-- A record at its limit with its entries and children set free, and a held notice offered. -/
def State.limitOut (s : State) (x : Nat) : State := (s.limitFreed x).offerHeld x

theorem State.limitOut_fault?_ne (s : State) {x y : Nat} (hy : y ≠ x) : (s.limitOut x).fault? y =
    if y ∈ s.childFaults x then (s.fault? y).map (FaultRecord.unlinked s.settings.reminder.toNat) else s.fault? y := by
  rw [State.limitOut, State.offerHeld_fault?_ne _ hy, State.limitFreed_fault?]

theorem State.limitOut_wanes (s : State) (x : Nat) : s.Wanes (s.limitOut x) :=
  (s.limitFreed_wanes x).trans (State.offerHeld_wanes ..)

theorem State.limitOut_terms (s : State) (x : Nat) : (s.limitOut x).terms = (s.limitFreed x).terms :=
  State.terms_of_ties (State.offerHeld_ties ..)

theorem State.Ranked.limitOut {s : State} {rank : Nat → Nat} (h : s.Ranked rank) (x : Nat) :
    (s.limitOut x).Ranked rank := by
  refine State.Ranked.of_ties (h.of_parents (t := s.limitFreed x) fun y g p hg hp => ?_) (State.offerHeld_ties ..)
  rw [State.limitFreed_fault?] at hg
  split at hg
  · obtain ⟨g₀, -, rfl⟩ := Option.map_eq_some_iff.mp hg
    cases hp
  · exact ⟨g, hg, hp⟩

section Limit

variable {s : State} {x : Nat} {f : FaultRecord} (hx : s.fault? x = some f)
include hx

theorem State.clearingLimit_of_top (htop : f.parent = none) : s.clearingLimit x =
    ((s.limitOut x).offerClosed x .clearingLimit (s.linkedTerms x).length
      (sortIds (s.childFaults x)).length).removeFault x := by
  rw [State.clearingLimit_of_some hx, htop]
  rfl

theorem State.clearingLimit_of_linked {p : Nat} (hp : f.parent = some p) : ∃ n, s.clearingLimit x =
    (progressFault (n + 1) p ((s.limitOut x).dropChild p)).removeFault x := by
  rw [State.clearingLimit_of_some hx, hp]
  exact ⟨_, rfl⟩

theorem State.clearingLimit_gone : (s.clearingLimit x).fault? x = none := by
  cases hp : f.parent with
  | none => rw [State.clearingLimit_of_top hx hp, State.removeFault_fault?, if_pos rfl]
  | some p =>
    obtain ⟨n, hn⟩ := State.clearingLimit_of_linked hx hp
    rw [hn, State.removeFault_fault?, if_pos rfl]

theorem State.clearingLimit_wanes : s.Wanes (s.clearingLimit x) := by
  refine (s.limitOut_wanes x).trans ?_
  cases hp : f.parent with
  | none =>
    rw [State.clearingLimit_of_top hx hp]
    exact (State.offerClosed_wanes ..).trans (State.removeFault_wanes ..)
  | some p =>
    obtain ⟨n, hn⟩ := State.clearingLimit_of_linked hx hp
    rw [hn]
    exact ((State.modFault_wanes _ p (f := FaultRecord.orphaned) fun _ => rfl).trans (progressFault_wanes ..)).trans
      (State.removeFault_wanes ..)

theorem State.clearingLimit_aside : (s.clearingLimit x).aside = s.aside := by
  have hout : (s.limitOut x).aside = s.aside := (State.offerHeld_aside ..).trans (s.limitFreed_aside x)
  cases hp : f.parent with
  | none =>
    rw [State.clearingLimit_of_top hx hp]
    exact (State.removeFault_aside ..).trans ((State.offerClosed_aside ..).trans hout)
  | some p =>
    obtain ⟨n, hn⟩ := State.clearingLimit_of_linked hx hp
    rw [hn]
    exact (State.removeFault_aside ..).trans ((progressFault_aside ..).trans hout)

theorem State.clearingLimit_term? (a : Nat) : (s.clearingLimit x).term? a = (s.limitFreed x).term? a := by
  have hterms : (s.clearingLimit x).terms = (s.limitFreed x).terms := by
    cases hp : f.parent with
    | none =>
      rw [State.clearingLimit_of_top hx hp, State.removeFault_terms, State.terms_of_ties (State.offerClosed_ties ..),
        State.limitOut_terms]
    | some p =>
      obtain ⟨n, hn⟩ := State.clearingLimit_of_linked hx hp
      rw [hn, State.removeFault_terms, progressFault_terms]
      exact s.limitOut_terms x
  rw [State.term?, hterms]
  rfl

/-- Below a top record no domain but its subject changes. -/
theorem State.clearingLimit_domain? (htop : f.parent = none) {i : Nat}
    (hi : f.kind.onDomain = false ∨ i ≠ f.subject) : (s.clearingLimit x).domain? i = s.domain? i := by
  rw [State.clearingLimit_of_top hx htop]
  generalize hclosed : (s.limitOut x).offerClosed x .clearingLimit (s.linkedTerms x).length
    (sortIds (s.childFaults x)).length = t
  have hties : t.ties = (s.limitFreed x).ties := hclosed ▸
    (State.offerClosed_ties ..).trans (State.offerHeld_ties ..)
  have hdomains : t.domains = s.domains := (State.domains_of_ties hties).trans (s.limitFreed_domains x)
  have hname : t.named x = some (f.kind, f.subject) :=
    (State.named_of_ties hties x).trans ((s.limitFreed_named x x).trans (State.named_of_fault? hx))
  obtain ⟨g, hg, hsame⟩ := Option.map_eq_some_iff.mp hname
  obtain ⟨hkind, hsubject⟩ := Prod.mk.inj hsame
  rw [State.removeFault_domain? hg (by rwa [hkind, hsubject]), State.domain?, hdomains]
  rfl

section Ranked

variable (hd : Table.distinct s.faults) {rank : Nat → Nat} (hr : s.Ranked rank)
include hd hr

/-- A record is no child of itself. -/
theorem State.not_mem_childFaults_self : x ∉ s.childFaults x := fun hmem =>
  absurd (hr x f x hx ((State.mem_childFaults hd hx).mp hmem)) (lt_irrefl _)

theorem State.limitFreed_fault?_self : (s.limitFreed x).fault? x = some f := by
  rw [State.limitFreed_fault?, if_neg (State.not_mem_childFaults_self hx hd hr), hx]

theorem State.limitOut_of_clear (hheld : f.held = false) : s.limitOut x = s.limitFreed x :=
  State.offerHeld_of_clear (State.limitFreed_fault?_self hx hd hr) hheld

omit hx in
theorem State.limitOut_child {c : Nat} {g : FaultRecord} (hc : s.fault? c = some g) (hp : g.parent = some x) :
    (s.limitOut x).fault? c = some (g.unlinked s.settings.reminder.toNat) := by
  have hcx : c ≠ x := fun hcx => absurd (hr c g x hc hp) (hcx ▸ lt_irrefl _)
  rw [State.limitOut_fault?_ne s hcx, if_pos ((State.mem_childFaults hd hc).mpr hp), hc, Option.map_some]

omit hx hr in
theorem State.limitOut_other {y : Nat} {g : FaultRecord} (hyx : y ≠ x) (hy : s.fault? y = some g)
    (hp : g.parent ≠ some x) : (s.limitOut x).fault? y = some g := by
  rw [State.limitOut_fault?_ne s hyx, if_neg (mt (State.mem_childFaults hd hy).mp hp), hy]

/-- The removal of a record at its limit changes no record above it. -/
theorem State.clearingLimit_child {c : Nat} {g : FaultRecord} (hc : s.fault? c = some g) (hp : g.parent = some x) :
    (s.clearingLimit x).fault? c = some (g.unlinked s.settings.reminder.toNat) := by
  have hxc : rank x < rank c := hr c g x hc hp
  have hcx : c ≠ x := fun hcx => absurd hxc (hcx ▸ lt_irrefl _)
  have hout := State.limitOut_child hd hr hc hp
  cases hparent : f.parent with
  | none =>
    rw [State.clearingLimit_of_top hx hparent, State.removeFault_fault?, if_neg hcx, State.offerClosed_fault?, hout]
  | some p =>
    obtain ⟨n, hn⟩ := State.clearingLimit_of_linked hx hparent
    have hpc : rank p < rank c := (hr x f p hx hparent).trans hxc
    have hcp : c ≠ p := fun hcp => absurd hpc (hcp ▸ lt_irrefl _)
    have hranked : ((s.limitOut x).dropChild p).Ranked rank :=
      (hr.limitOut x).modFault p (f := FaultRecord.orphaned) fun _ => rfl
    rw [hn, State.removeFault_fault?, if_neg hcx, progressFault_fault?_of_rank hranked hpc, State.dropChild_fault?,
      if_neg hcp, hout]

omit hr in
theorem State.clearingLimit_other_of_top (htop : f.parent = none) {y : Nat} {g : FaultRecord} (hyx : y ≠ x)
    (hy : s.fault? y = some g) (hp : g.parent ≠ some x) : (s.clearingLimit x).fault? y = some g := by
  rw [State.clearingLimit_of_top hx htop, State.removeFault_fault?, if_neg hyx, State.offerClosed_fault?,
    State.limitOut_other hd hyx hy hp]

/-- The notices of a top record at its limit (R140, R146). -/
theorem State.clearingLimit_notices_of_top (hterms : Table.distinct s.terms) (htop : f.parent = none)
    (hheld : f.held = false) : (s.clearingLimit x).notices = ((s.limitOffers x).offer .info (.faultClosed x f.kind
      (s.faultSubject f.kind f.subject) .clearingLimit false f.openedAt f.affected (s.linkedTerms x).length
      (s.childFaults x).length f.acked f.reminders)).notices := by
  obtain ⟨hkept, hnotices⟩ := State.limitFreed_alike hterms x
  have hsubject : (s.limitOffers x).faultSubject f.kind f.subject = s.faultSubject f.kind f.subject :=
    State.faultSubject_of_kept (hkept.symm.trans (s.limitFreed_kept x)) f.kind f.subject
  rw [State.clearingLimit_of_top hx htop, State.removeFault_notices, State.limitOut_of_clear hx hd hr hheld,
    State.offerClosed_notices hkept hnotices (State.limitFreed_fault?_self hx hd hr),
    length_sortIds (State.nodup_childFaults hd x), hsubject]
  rfl

section Parent

variable {p : Nat} {q : FaultRecord} (hp : f.parent = some p) (hq : s.fault? p = some q) (hkind : q.kind ≠ .unitLost)
include hp hq

theorem State.limitOut_parent : (s.limitOut x).fault? p = some q := by
  have hpx : rank p < rank x := hr x f p hx hp
  have hne : p ≠ x := fun hne => absurd hpx (hne ▸ lt_irrefl _)
  exact State.limitOut_other hd hne hq fun hloop => absurd (hr p q x hq hloop) (lt_asymm hpx)

include hkind

/-- A parent with something left loses the child and makes progress, and that is all. -/
theorem State.clearingLimit_parent_stays (hmore : 0 < q.off ∨ 1 < q.children) : s.clearingLimit x =
    ((s.limitOut x).modFault p fun f => (s.limitOut x).progressed f.orphaned).removeFault x := by
  obtain ⟨n, hn⟩ := State.clearingLimit_of_linked hx hp
  rw [hn, State.orphan_stays n (State.limitOut_parent hx hd hr hp hq) hkind hmore]

theorem State.clearingLimit_parent_gone (hoff : q.off = 0) (hchildren : q.children ≤ 1) :
    (s.clearingLimit x).fault? p = none := by
  obtain ⟨n, hn⟩ := State.clearingLimit_of_linked hx hp
  rw [hn]
  exact (State.removeFault_wanes ..).fault?_none
    (State.orphan_gone n (State.limitOut_parent hx hd hr hp hq) hkind hoff hchildren)

end Parent

end Ranked

end Limit

/-! ## The timers of a record expire -/

theorem State.clearingExpires_of_due {s : State} {x : Nat} {f : FaultRecord} (hx : s.fault? x = some f)
    (hdue : f.clearing = some 0) : s.clearingExpires x = s.clearingLimit x := by
  simp [State.clearingExpires, hx, hdue]

/-- A record at the expiry of its reminder timer (R142). -/
def FaultRecord.remindedAgain (f : FaultRecord) (minutes : Nat) : FaultRecord :=
  { f with reminders := inc8 f.reminders, reminder := if minutes = 0 then none else some (minutes * 60000) }

theorem State.reminderExpires_of_due {s : State} {x : Nat} {f : FaultRecord} (hx : s.fault? x = some f)
    (hdue : f.reminder = some 0) : s.reminderExpires x =
      (s.modFault x fun f => f.remindedAgain s.settings.reminder.toNat).offer (s.faultClass f.kind f.subject)
        (.faultReminder x f.kind (s.faultSubject f.kind f.subject) f.state f.openedAt f.affected f.off f.children
          (inc8 f.reminders)) := by
  have hminutes : ∀ m : Nat, m * 60000 = 0 ↔ m = 0 := fun m => by omega
  simp only [State.reminderExpires, hx, hdue, if_true, hminutes]
  rfl

/-- Settles O33: the clearing timer by what the freeing, the parent's loss of a child and the removal each leave, the
reminder timer by its one record and its one notice. -/
theorem faultTimersExpire : Obligations.FaultTimersExpire := by
  intro i s f hrun hx
  refine ⟨fun hdue hterms => ⟨_, rfl, ?clearing⟩, fun hdue => ⟨_, rfl, ?reminder⟩⟩
  case clearing =>
    rw [State.unlessHalted_of_running hrun, State.clearingExpires_of_due hx hdue]
    have hwanes := State.clearingLimit_wanes hx
    have haside := State.clearingLimit_aside hx
    have hgone := State.clearingLimit_gone hx
    simp only [State.settle_fault?, State.settle_windowOf, State.settle_notices, State.settle_term?,
      State.domain?_of_ties (State.settle_ties _)]
    refine ⟨hgone, fun a e ha => ?terms, ?settings, ?units, ?latch, ?learned, fun hon hw => ?quiet,
      fun htop d hdom => State.clearingLimit_domain? hx htop hdom, fun rank hd hr => ⟨fun c g hc hp => ?child,
      fun htop => ⟨fun y g hyx hy hp => ?others, fun hheld => ?closed⟩, fun p q hp hq hkind => ⟨fun hmore => ?stays,
      fun hoff hchildren => ⟨?parentGone, fun hon hw => ?parentQuiet⟩⟩⟩⟩
    case terms =>
      by_cases hlink : e.link = some i.toNat
      · refine ⟨e.released, ?_, rfl, rfl, by simp [Terminal.released], fun hne => absurd hlink hne, fun _ => rfl⟩
        rw [State.clearingLimit_term? hx, State.limitFreed_term?, if_pos ((State.mem_linkedTerms hterms ha).mpr hlink),
          ha, Option.map_some]
      · refine ⟨e, ?_, rfl, rfl, hlink, fun _ => rfl, fun h => absurd h hlink⟩
        rw [State.clearingLimit_term? hx, State.limitFreed_term?, if_neg (mt (State.mem_linkedTerms hterms ha).mp hlink),
          ha]
    case settings => exact (State.settings_of_still (State.settle_still _)).trans (State.settings_of_kept hwanes.kept)
    case units => exact (State.units_of_still (State.settle_still _)).trans (State.units_of_aside haside)
    case latch => exact (State.latch_of_still (State.settle_still _)).trans (State.latch_of_kept hwanes.kept)
    case learned => exact (State.learned_of_still (State.settle_still _)).trans (State.learned_of_aside haside)
    case quiet => exact hwanes.quiet hx hgone hon hw
    case child => exact State.clearingLimit_child hx hd hr hc hp
    case others => exact State.clearingLimit_other_of_top hx hd htop hyx hy hp
    case closed => rw [State.clearingLimit_notices_of_top hx hd hr hterms htop hheld]
    case stays =>
      have hne : p ≠ i.toNat := fun hne => absurd (hr _ f p hx hp) (hne ▸ lt_irrefl _)
      rw [State.clearingLimit_parent_stays hx hd hr hp hq hkind hmore]
      refine ⟨?_, fun y g hyx hyp hy hparent => ?_, fun hheld => ?_⟩
      · rw [State.removeFault_fault?, if_neg hne, State.modFault_fault?, if_pos rfl,
          State.limitOut_parent hx hd hr hp hq, Option.map_some, State.progressed_of_kept (s.limitOut_wanes _).kept]
        rfl
      · rw [State.removeFault_fault?, if_neg hyx, State.modFault_fault?, if_neg hyp,
          State.limitOut_other hd hyx hy hparent]
      · rw [State.removeFault_notices, State.modFault_notices, State.limitOut_of_clear hx hd hr hheld,
          (State.limitFreed_alike hterms _).2]
    case parentGone => exact State.clearingLimit_parent_gone hx hd hr hp hq hkind hoff hchildren
    case parentQuiet =>
      exact hwanes.quiet hq (State.clearingLimit_parent_gone hx hd hr hp hq hkind hoff hchildren) hon hw
  case reminder =>
    rw [State.unlessHalted_of_running hrun, State.reminderExpires_of_due hx hdue]
    refine ⟨?_, fun j hj => ?_, ?_, ?_⟩
    · rw [State.settle_fault?, State.offer_fault?, State.modFault_fault?, if_pos rfl, hx, Option.map_some]
      rfl
    · rw [State.settle_fault?, State.offer_fault?, State.modFault_fault?, if_neg hj]
    · rw [State.settle_notices]
      rfl
    · rw [State.settle_still]
      rfl

end Sys2Proof.Machine

/-! FAULT_CLEAR (R144) as a removal of records one after the other, and O32. -/

namespace Sys2Proof.Machine

/-! ## The terminals of the records that go -/

/-- An entry is linked to one of some records. -/
def Terminal.linkedTo (gone : List Nat) (e : Terminal) : Bool := e.link.any fun x => decide (x ∈ gone)

/-- What FAULT_CLEAR makes of an entry when these records go (R96). -/
def Terminal.clearedOf (gone : List Nat) (e : Terminal) : Terminal := if e.linkedTo gone = true then e.cleared else e

theorem Terminal.linkedTo_nil (e : Terminal) : e.linkedTo [] = false := by
  cases h : e.link <;> simp [Terminal.linkedTo, h]

theorem Terminal.linkedTo_cons (c : Nat) (gone : List Nat) (e : Terminal) :
    e.linkedTo (c :: gone) = (decide (e.link = some c) || e.linkedTo gone) := by
  cases h : e.link <;> simp [Terminal.linkedTo, h]

theorem Terminal.linkedTo_single (c : Nat) (e : Terminal) : e.linkedTo [c] = decide (e.link = some c) := by
  rw [Terminal.linkedTo_cons, Terminal.linkedTo_nil, Bool.or_false]

theorem Terminal.linkedTo_clearedOf (c : Nat) (gone : List Nat) (e : Terminal) :
    (e.clearedOf [c]).linkedTo gone = (!decide (e.link = some c) && e.linkedTo gone) := by
  unfold Terminal.clearedOf
  rw [Terminal.linkedTo_single]
  by_cases h : e.link = some c <;> simp [h, Terminal.cleared, Terminal.linkedTo]

theorem Terminal.clearedOf_cons (c : Nat) (gone : List Nat) (e : Terminal) :
    (e.clearedOf [c]).clearedOf gone = e.clearedOf (c :: gone) := by
  conv_lhs => rw [Terminal.clearedOf, Terminal.linkedTo_clearedOf]
  rw [Terminal.clearedOf, Terminal.clearedOf, Terminal.linkedTo_single, Terminal.linkedTo_cons]
  by_cases h : e.link = some c <;> simp [h]

/-- Changes at several keys, none of which does more a second time, are one map of the table. -/
theorem Table.foldl_modify {α : Type} {f : α → α} (hf : ∀ v, f (f v) = f v) (keys : List Nat) (t : Table α) :
    keys.foldl (fun t k => Table.modify t k f) t = t.map fun e => if e.1 ∈ keys then (e.1, f e.2) else e := by
  induction keys generalizing t with
  | nil => simp
  | cons k keys ih =>
    rw [List.foldl_cons, ih, Table.modify, List.map_map]
    refine List.map_congr_left fun e _ => ?_
    by_cases hk : e.1 = k
    · by_cases hmem : k ∈ keys <;> simp [hk, hmem, hf]
    · simp [hk]

/-- A count splits along a condition. -/
theorem Table.countWhere_or {α : Type} (t : Table α) (p q : Nat → α → Bool) :
    (Table.countWhere t fun k v => p k v || q k v) =
      Table.countWhere t p + Table.countWhere t fun k v => !p k v && q k v := by
  induction t with
  | nil => rfl
  | cons e t ih =>
    rw [Table.countWhere_cons, Table.countWhere_cons, Table.countWhere_cons, ih]
    cases p e.1 e.2 with
    | true =>
      simp only [Bool.true_or, Bool.not_true, Bool.false_and, if_true, Bool.false_eq_true, if_false]
      omega
    | false =>
      simp only [Bool.false_or, Bool.not_false, Bool.true_and, Bool.false_eq_true, if_false]
      omega

theorem State.unfoldsCleared_terms (keys : List Nat) (s : State) :
    (overKeys keys (fun a t => t.unfoldCleared a) s).terms =
      keys.foldl (fun t a => Table.modify t a Terminal.cleared) s.terms := by
  induction keys generalizing s with
  | nil => rfl
  | cons a keys ih => exact ih (s.unfoldCleared a)

/-- The terminals of a cleared record are unfolded and REPORTED, and no other entry changes (R96, R144). -/
theorem State.clearTerms_terms {s : State} (hd : Table.distinct s.terms) (c : Nat) :
    (s.clearTerms c).1.terms = s.terms.map fun e => (e.1, e.2.clearedOf [c]) := by
  refine (s.unfoldsCleared_terms _).trans ((Table.foldl_modify (f := Terminal.cleared) (fun _ => rfl) _ _).trans ?_)
  refine List.map_congr_left fun e he => ?_
  have hmem : e.1 ∈ s.linkedTerms c ↔ e.2.link = some c := State.mem_linkedTerms hd (Table.get?_of_mem hd he)
  rw [Terminal.clearedOf, Terminal.linkedTo_single]
  by_cases h : e.2.link = some c
  · rw [if_pos (hmem.mpr h), if_pos (decide_eq_true h)]
  · rw [if_neg (mt hmem.mp h), if_neg (by simpa using h)]

theorem State.clearTerms_count (s : State) (c : Nat) :
    (s.clearTerms c).2 = Table.countWhere s.terms fun _ e => decide (e.link = some c) := List.length_map ..

theorem State.clearTerms_still (s : State) (c : Nat) :
    (s.clearTerms c).1 = { s with terms := (s.clearTerms c).1.terms } :=
  overKeys_keeps (f := fun a t => State.unfoldCleared t a) (p := fun t : State => t = { s with terms := t.terms })
    (fun a t h => by rw [h]; rfl) _ _ rfl

theorem State.clearTerms_wanes (s : State) (c : Nat) : s.Wanes (s.clearTerms c).1 :=
  .of_same (s.clearTerms_kept c) (fun y => congrArg (Option.map _) (s.clearTerms_fault? c y)) fun i => by
    rw [s.clearTerms_still c]
    rfl

/-! ## One record goes -/

theorem State.dropChild_aside (s : State) (p : Nat) : (s.dropChild p).aside = s.aside := rfl

/-- A record with nothing below it goes: the state, and the numbers of records and terminals (R144). -/
def clearOne (acc : State × Nat × Nat) (c : Nat) : State × Nat × Nat :=
  ((acc.1.clearTerms c).1.takeOut c, acc.2.1 + 1, acc.2.2 + (acc.1.clearTerms c).2)

theorem State.takeOut_wanes (s : State) (c : Nat) : s.Wanes (s.takeOut c) := by
  refine State.Wanes.trans ?_ (State.removeFault_wanes _ c)
  split
  · next p _ => exact s.modFault_wanes p (f := FaultRecord.orphaned) fun _ => rfl
  · exact State.Wanes.refl s

theorem State.takeOut_aside (s : State) (c : Nat) : (s.takeOut c).aside = s.aside := by
  refine (State.removeFault_aside _ c).trans ?_
  split <;> rfl

theorem State.takeOut_notices (s : State) (c : Nat) : (s.takeOut c).notices = s.notices := by
  refine (State.removeFault_notices _ c).trans ?_
  split <;> rfl

theorem State.takeOut_terms (s : State) (c : Nat) : (s.takeOut c).terms = s.terms := by
  refine (State.removeFault_terms _ c).trans ?_
  split <;> rfl

/-- A record that is not the parent of the one that goes keeps its child count. -/
theorem State.takeOut_fault? {s : State} {c y : Nat} (hyc : y ≠ c)
    (hy : ∀ g, s.fault? c = some g → g.parent ≠ some y) : (s.takeOut c).fault? y = s.fault? y := by
  rw [State.takeOut, State.removeFault_fault?, if_neg hyc]
  split
  · next p hp =>
    obtain ⟨g, hg, hparent⟩ := Option.bind_eq_some_iff.mp hp
    rw [State.dropChild_fault?, if_neg fun h : y = p => hy g hg (h ▸ hparent)]
  · rfl

theorem State.takeOut_isSome {s : State} {c y : Nat} (hyc : y ≠ c) (hy : (s.fault? y).isSome = true) :
    ((s.takeOut c).fault? y).isSome = true := by
  rw [State.takeOut, State.removeFault_fault?, if_neg hyc]
  split
  · rw [State.dropChild_fault?]
    split
    · rwa [Option.isSome_map]
    · exact hy
  · exact hy

section One

variable (acc : State × Nat × Nat) (c : Nat)

theorem clearOne_wanes : acc.1.Wanes (clearOne acc c).1 := (acc.1.clearTerms_wanes c).trans (State.takeOut_wanes ..)

theorem clearOne_thins : acc.1.Thins (clearOne acc c).1 :=
  (State.Thins.of_faults (acc.1.clearTerms_faults c)).trans (State.takeOut_thins ..)

theorem clearOne_aside : (clearOne acc c).1.aside = acc.1.aside :=
  (State.takeOut_aside ..).trans (by rw [acc.1.clearTerms_still c]; rfl)

theorem clearOne_notices : (clearOne acc c).1.notices = acc.1.notices :=
  (State.takeOut_notices ..).trans (by rw [acc.1.clearTerms_still c])

theorem clearOne_fault?_self : (clearOne acc c).1.fault? c = none := State.takeOut_fault?_self ..

variable {acc c}

theorem clearOne_terms (hd : Table.distinct acc.1.terms) :
    (clearOne acc c).1.terms = acc.1.terms.map fun e => (e.1, e.2.clearedOf [c]) :=
  (State.takeOut_terms ..).trans (State.clearTerms_terms hd c)

theorem clearOne_fault? {y : Nat} (hyc : y ≠ c) (hy : ∀ g, acc.1.fault? c = some g → g.parent ≠ some y) :
    (clearOne acc c).1.fault? y = acc.1.fault? y :=
  (State.takeOut_fault? hyc fun g hg => hy g ((State.clearTerms_fault? ..).symm.trans hg)).trans
    (State.clearTerms_fault? ..)

theorem clearOne_isSome {y : Nat} (hyc : y ≠ c) (hy : (acc.1.fault? y).isSome = true) :
    ((clearOne acc c).1.fault? y).isSome = true :=
  State.takeOut_isSome hyc (by rwa [State.clearTerms_fault?])

end One

/-! ## Records go one after the other -/

/-- The records of a list go in its order. -/
def clearAll (acc : State × Nat × Nat) (gone : List Nat) : State × Nat × Nat := gone.foldl clearOne acc

theorem clearAll_cons (acc : State × Nat × Nat) (c : Nat) (gone : List Nat) :
    clearAll acc (c :: gone) = clearAll (clearOne acc c) gone := rfl

theorem clearAll_append (acc : State × Nat × Nat) (l r : List Nat) :
    clearAll acc (l ++ r) = clearAll (clearAll acc l) r := List.foldl_append

section All

variable (acc : State × Nat × Nat) (gone : List Nat)

theorem clearAll_wanes : acc.1.Wanes (clearAll acc gone).1 := by
  induction gone generalizing acc with
  | nil => exact State.Wanes.refl _
  | cons c gone ih => exact (clearOne_wanes acc c).trans (ih _)

theorem clearAll_thins : acc.1.Thins (clearAll acc gone).1 := by
  induction gone generalizing acc with
  | nil => exact State.Thins.refl _
  | cons c gone ih => exact (clearOne_thins acc c).trans (ih _)

theorem clearAll_aside : (clearAll acc gone).1.aside = acc.1.aside := by
  induction gone generalizing acc with
  | nil => rfl
  | cons c gone ih => exact (ih _).trans (clearOne_aside acc c)

theorem clearAll_notices : (clearAll acc gone).1.notices = acc.1.notices := by
  induction gone generalizing acc with
  | nil => rfl
  | cons c gone ih => exact (ih _).trans (clearOne_notices acc c)

theorem clearAll_records : (clearAll acc gone).2.1 = acc.2.1 + gone.length := by
  induction gone generalizing acc with
  | nil => rfl
  | cons c gone ih =>
    rw [clearAll_cons, ih, List.length_cons]
    simp only [clearOne]
    omega

variable {acc gone}

theorem clearAll_terms (hd : Table.distinct acc.1.terms) :
    (clearAll acc gone).1.terms = acc.1.terms.map fun e => (e.1, e.2.clearedOf gone) := by
  induction gone generalizing acc with
  | nil => simp [clearAll, Terminal.clearedOf, Terminal.linkedTo_nil]
  | cons c gone ih =>
    have hone := clearOne_terms (c := c) hd
    have hd' : Table.distinct (clearOne acc c).1.terms := by
      rw [hone]
      exact Table.distinct_map hd _
    rw [clearAll_cons, ih hd', hone, List.map_map]
    exact List.map_congr_left fun e _ => congrArg (e.1, ·) (Terminal.clearedOf_cons c gone e.2)

/-- The terminals of records that are named once each are counted once each. -/
theorem clearAll_terminals (hd : Table.distinct acc.1.terms) (hnodup : gone.Nodup) :
    (clearAll acc gone).2.2 = acc.2.2 + Table.countWhere acc.1.terms fun _ e => e.linkedTo gone := by
  induction gone generalizing acc with
  | nil => simp [clearAll, Terminal.linkedTo_nil, Table.countWhere]
  | cons c gone ih =>
    obtain ⟨hfresh, hnodup⟩ := List.nodup_cons.mp hnodup
    have hone := clearOne_terms (c := c) hd
    have hd' : Table.distinct (clearOne acc c).1.terms := by
      rw [hone]
      exact Table.distinct_map hd _
    rw [clearAll_cons, ih hd' hnodup, hone, Table.countWhere_map]
    simp only [Terminal.linkedTo_clearedOf, Terminal.linkedTo_cons]
    rw [Table.countWhere_or _ (fun _ (e : Terminal) => decide (e.link = some c)) fun _ e => e.linkedTo gone]
    have hcount : (clearOne acc c).2.2 = acc.2.2 + _ := congrArg (acc.2.2 + ·) (acc.1.clearTerms_count c)
    omega

theorem clearAll_fault?_of_mem {y : Nat} (hy : y ∈ gone) : (clearAll acc gone).1.fault? y = none := by
  induction gone generalizing acc with
  | nil => cases hy
  | cons c gone ih =>
    rcases List.mem_cons.mp hy with rfl | hy
    · exact (clearAll_thins _ gone).none (clearOne_fault?_self acc y)
    · exact ih hy

theorem clearAll_isSome {y : Nat} (hy : y ∉ gone) (hsome : (acc.1.fault? y).isSome = true) :
    ((clearAll acc gone).1.fault? y).isSome = true := by
  induction gone generalizing acc with
  | nil => exact hsome
  | cons c gone ih =>
    obtain ⟨hyc, hy⟩ := not_or.mp (List.mem_cons.not.mp hy)
    exact ih hy (clearOne_isSome hyc hsome)

/-- A record that stays, and is the parent of none that goes, does not change. -/
theorem clearAll_fault? {y : Nat} (hy : y ∉ gone)
    (hparent : ∀ c ∈ gone, ∀ g, acc.1.fault? c = some g → g.parent ≠ some y) :
    (clearAll acc gone).1.fault? y = acc.1.fault? y := by
  induction gone generalizing acc with
  | nil => rfl
  | cons c gone ih =>
    obtain ⟨hyc, hy⟩ := not_or.mp (List.mem_cons.not.mp hy)
    rw [clearAll_cons, ih hy fun b hb g hg hp => ?_, clearOne_fault? hyc (hparent c (by simp))]
    obtain ⟨g₀, hg₀, hp₀⟩ := (clearOne_thins acc c).parent hg hp
    exact hparent b (by simp [hb]) g₀ hg₀ hp₀

end All

/-! ## The subtree goes in such an order -/

/-- `out` is `acc` after these records have gone one after the other, each of them open at first and each with nothing
left below it in the end. -/
structure Orderly (acc : State × Nat × Nat) (gone : List Nat) (out : State × Nat × Nat) : Prop where
  run     : out = clearAll acc gone
  nodup   : gone.Nodup
  present : ∀ c ∈ gone, (acc.1.fault? c).isSome = true
  bare    : ∀ c ∈ gone, ∀ y g, out.1.fault? y = some g → g.parent ≠ some c

theorem Orderly.nil (acc : State × Nat × Nat) : Orderly acc [] acc := ⟨rfl, .nil, by simp, by simp⟩

theorem Orderly.one {acc : State × Nat × Nat} {c : Nat} (hc : (acc.1.fault? c).isSome = true)
    (hbare : ∀ y g, acc.1.fault? y = some g → g.parent ≠ some c) : Orderly acc [c] (clearOne acc c) where
  run := rfl
  nodup := List.nodup_singleton c
  present := by simpa using hc
  bare := fun b hb y g hg hp => by
    obtain rfl := List.mem_singleton.mp hb
    obtain ⟨g₀, hg₀, hp₀⟩ := (clearOne_thins acc b).parent hg hp
    exact hbare y g₀ hg₀ hp₀

theorem Orderly.thins {acc out : State × Nat × Nat} {gone : List Nat} (h : Orderly acc gone out) :
    acc.1.Thins out.1 := h.run ▸ clearAll_thins acc gone

theorem Orderly.fault?_of_mem {acc out : State × Nat × Nat} {gone : List Nat} (h : Orderly acc gone out) {y : Nat}
    (hy : y ∈ gone) : out.1.fault? y = none := h.run ▸ clearAll_fault?_of_mem hy

theorem Orderly.trans {acc mid out : State × Nat × Nat} {l r : List Nat} (h : Orderly acc l mid)
    (g : Orderly mid r out) : Orderly acc (l ++ r) out where
  run := by rw [clearAll_append, ← h.run, g.run]
  nodup := List.nodup_append.mpr ⟨h.nodup, g.nodup, fun a ha b hb hab => by
    have hsome := g.present b hb
    rw [← hab, h.fault?_of_mem ha] at hsome
    cases hsome⟩
  present := fun c hc => by
    rcases List.mem_append.mp hc with hc | hc
    · exact h.present c hc
    · obtain ⟨g₁, hg₁⟩ := Option.isSome_iff_exists.mp (g.present c hc)
      obtain ⟨g₀, hg₀, -⟩ := h.thins.records c g₁ hg₁
      rw [hg₀]
      rfl
  bare := fun c hc y r hr hp => by
    rcases List.mem_append.mp hc with hc | hc
    · obtain ⟨r₀, hr₀, hp₀⟩ := g.thins.parent hr hp
      exact h.bare c hc y r₀ hr₀ hp₀
    · exact g.bare c hc y r hr hp

/-- Of two children of one record neither is below the other. -/
theorem State.Ranked.not_below_sibling {s : State} {rank : Nat → Nat} (h : s.Ranked rank) {x b c : Nat}
    {f g : FaultRecord} (hb : s.fault? b = some f) (hbx : f.parent = some x) (hc : s.fault? c = some g)
    (hcx : g.parent = some x) : ¬ s.Below c b := by
  intro hbelow
  have hxb : rank x < rank b := h b f x hb hbx
  obtain ⟨y, ⟨g', hg', hy⟩, hrest⟩ := Relation.TransGen.head'_iff.mp hbelow
  obtain rfl : g' = g := Option.some.inj (hg'.symm.trans hc)
  obtain rfl : y = x := Option.some.inj (hy.symm.trans hcx)
  rcases Relation.reflTransGen_iff_eq_or_transGen.mp hrest with rfl | htrans
  · exact lt_irrefl _ hxb
  · exact lt_asymm hxb (h.below htrans)

/-- A record that stays is what it was but for its child count. -/
theorem State.Thins.keeps {s t : State} (h : s.Thins t) {y : Nat} {f : FaultRecord} (hy : s.fault? y = some f)
    (hsome : (t.fault? y).isSome = true) : ∃ g, t.fault? y = some g ∧ g = { f with children := g.children } := by
  obtain ⟨g, hg⟩ := Option.isSome_iff_exists.mp hsome
  obtain ⟨f₀, hf₀, hsame⟩ := h.records y g hg
  obtain rfl : f₀ = f := Option.some.inj (hf₀.symm.trans hy)
  exact ⟨g, hg, hsame⟩

/-- A record that is not below the one named stays. -/
theorem clearBelow_keeps {n x y : Nat} {acc : State × Nat × Nat} (hd : Table.distinct acc.1.faults)
    (hy : (acc.1.fault? y).isSome = true) (hbelow : ¬ acc.1.Below y x) :
    ((clearBelow n x acc).1.fault? y).isSome = true := by
  rw [Option.isSome_iff_ne_none]
  exact fun hgone => hbelow (clearBelow_gone hd hy hgone)

/-- With fuel enough the records below one go in such an order. -/
theorem clearBelow_orderly {n x : Nat} {acc : State × Nat × Nat} (hd : Table.distinct acc.1.faults)
    {rank : Nat → Nat} (hr : acc.1.Ranked rank) (hfuel : acc.1.above rank x ≤ n) :
    ∃ gone, Orderly acc gone (clearBelow n x acc) := by
  induction n generalizing x acc with
  | zero => exact ⟨[], Orderly.nil acc⟩
  | succ n ih =>
    have hkids : ∀ c ∈ sortIds (acc.1.childFaults x), acc.1.above rank c ≤ n ∧
        ∃ g, acc.1.fault? c = some g ∧ g.parent = some x := fun c hc => by
      rw [mem_sortIds, State.childFaults, Table.mem_keysWhere] at hc
      obtain ⟨g, hg, hp⟩ := hc
      have hget : acc.1.fault? c = some g := Table.get?_of_mem hd hg
      have hlt := State.above_child hget (hr c g x hget (by simpa using hp))
      exact ⟨by omega, g, hget, by simpa using hp⟩
    have hnodup := nodup_sortIds (acc.1.childFaults x)
    rw [clearBelow_succ]
    clear hfuel
    generalize sortIds (acc.1.childFaults x) = kids at hkids hnodup
    induction kids generalizing acc with
    | nil => exact ⟨[], Orderly.nil acc⟩
    | cons c kids ihkids =>
      obtain ⟨hfresh, hnodup⟩ := List.nodup_cons.mp hnodup
      obtain ⟨habove, g, hc, hp⟩ := hkids c (by simp)
      obtain ⟨gone, hgone⟩ := ih (x := c) hd hr habove
      have hself : ((clearBelow n c acc).1.fault? c).isSome = true :=
        clearBelow_keeps hd (by simp [hc]) fun hloop => lt_irrefl _ (hr.below hloop)
      have hchild : Orderly acc (gone ++ [c]) (clearChild n acc c) := hgone.trans
        (.one hself fun y g hg => clearBelow_childless hd hr habove hg)
      have hthins := hchild.thins
      obtain ⟨rest, hrest⟩ := ihkids (hthins.distinct hd) (hthins.ranked hr) (fun b hb => by
        obtain ⟨habove', f, hf, hparent⟩ := hkids b (by simp [hb])
        have hbc : b ≠ c := fun h => hfresh (h ▸ hb)
        have hstays := clearOne_isSome (c := c) hbc
          (clearBelow_keeps (n := n) hd (by simp [hf]) (hr.not_below_sibling hc hp hf hparent))
        obtain ⟨f', hf', hsame⟩ := hthins.keeps hf hstays
        exact ⟨(hthins.above rank b).trans habove', f', hf', by rw [hsame]; exact hparent⟩) hnodup
      exact ⟨_, hchild.trans hrest⟩

/-- Removed in such an order, with nothing left below the named record, the records that go are those below it. -/
theorem Orderly.mem_iff_below {s : State} {x n k : Nat} {gone : List Nat} {out : State × Nat × Nat}
    (h : Orderly (s, n, k) gone out) (hbelow : ∀ y ∈ gone, s.Below y x)
    (hbare : ∀ y g, out.1.fault? y = some g → g.parent ≠ some x) (y : Nat) : y ∈ gone ↔ s.Below y x := by
  refine ⟨hbelow y, fun hy => ?_⟩
  have hmem : ∀ z g, s.fault? z = some g → out.1.fault? z = none → z ∈ gone := fun z g hz hnone => by
    by_contra hnot
    have hsome := clearAll_isSome (acc := (s, n, k)) hnot (by simp [hz])
    rw [← h.run, hnone] at hsome
    cases hsome
  have hleaves : ∀ z g p, s.fault? z = some g → g.parent = some p →
      (∀ r, out.1.fault? z = some r → r.parent ≠ some p) → out.1.fault? z = none := fun z g p hz hp hno => by
    cases hout : out.1.fault? z with
    | none => rfl
    | some r =>
      obtain ⟨g₀, hg₀, hsame⟩ := h.thins.records z r hout
      obtain rfl : g₀ = g := Option.some.inj (hg₀.symm.trans hz)
      exact absurd (by rw [hsame]; exact hp) (hno r hout)
  induction hy using Relation.TransGen.head_induction_on with
  | single hstep =>
    obtain ⟨g, hg, hp⟩ := hstep
    exact hmem _ g hg (hleaves _ g x hg hp fun r hr => hbare _ r hr)
  | head hstep _ ih =>
    obtain ⟨g, hg, hp⟩ := hstep
    exact hmem _ g hg (hleaves _ g _ hg hp fun r hr => h.bare _ ih _ r hr)

/-! ## The named record goes (R144) -/

/-- A record with all below it removed. -/
def State.emptied (s : State) (x : Nat) : State := (clearBelow (s.faults.length + 1) x (s, 0, 0)).1

/-- What FAULT_CLEAR of a record offers for it (R144, R146). -/
def State.hostClosed (s : State) (x : Nat) (f : FaultRecord) : State :=
  s.offer .info (.faultClosed x f.kind (s.faultSubject f.kind f.subject) .host true f.openedAt f.affected 0 0 f.acked
    f.reminders)

section Clear

variable {s : State} {x : Nat} {f : FaultRecord} (hx : s.fault? x = some f) (hd : Table.distinct s.faults)
  {rank : Nat → Nat} (hr : s.Ranked rank)

section Emptied

include hd hr

theorem State.below_orderly (x : Nat) : ∃ gone, Orderly (s, 0, 0) gone (clearBelow (s.faults.length + 1) x (s, 0, 0)) ∧
    ∀ y, y ∈ gone ↔ s.Below y x := by
  obtain ⟨gone, hgone⟩ := clearBelow_orderly (n := s.faults.length + 1) (x := x) (acc := (s, 0, 0)) hd hr
    (State.above_le ..)
  refine ⟨gone, hgone, hgone.mem_iff_below (fun y hy => ?_) fun y g hg => ?_⟩
  · exact clearBelow_gone (acc := (s, 0, 0)) hd (hgone.present y hy) (hgone.fault?_of_mem hy)
  · exact clearBelow_childless (acc := (s, 0, 0)) hd hr (State.above_le ..) hg

theorem State.emptied_wanes (x : Nat) : s.Wanes (s.emptied x) := by
  obtain ⟨gone, hgone, -⟩ := State.below_orderly hd hr x
  rw [State.emptied, hgone.run]
  exact clearAll_wanes (s, 0, 0) gone

theorem State.emptied_aside (x : Nat) : (s.emptied x).aside = s.aside := by
  obtain ⟨gone, hgone, -⟩ := State.below_orderly hd hr x
  rw [State.emptied, hgone.run]
  exact clearAll_aside (s, 0, 0) gone

theorem State.emptied_notices (x : Nat) : (s.emptied x).notices = s.notices := by
  obtain ⟨gone, hgone, -⟩ := State.below_orderly hd hr x
  rw [State.emptied, hgone.run]
  exact clearAll_notices (s, 0, 0) gone

/-- The records below go. -/
theorem State.emptied_below {y : Nat} (hy : s.Below y x) : (s.emptied x).fault? y = none := by
  obtain ⟨gone, hgone, hmem⟩ := State.below_orderly hd hr x
  exact hgone.fault?_of_mem ((hmem y).mpr hy)

/-- The other records stay as they are. -/
theorem State.emptied_other {y : Nat} (hyx : y ≠ x) (hy : ¬ s.Below y x) : (s.emptied x).fault? y = s.fault? y := by
  obtain ⟨gone, hgone, hmem⟩ := State.below_orderly hd hr x
  rw [State.emptied, hgone.run]
  refine clearAll_fault? (mt (hmem y).mp hy) fun c hc g hg hp => ?_
  obtain ⟨z, ⟨g', hg', hz⟩, hrest⟩ := Relation.TransGen.head'_iff.mp ((hmem c).mp hc)
  obtain rfl : g' = g := Option.some.inj (hg'.symm.trans hg)
  obtain rfl : z = y := Option.some.inj (hz.symm.trans hp)
  exact (Relation.reflTransGen_iff_eq_or_transGen.mp hrest).elim (fun h => hyx h.symm) hy

include hx

/-- The record itself loses its children only. -/
theorem State.emptied_self : ∃ g, (s.emptied x).fault? x = some g ∧ g = { f with children := g.children } :=
  (clearBelow_thins _ x (s, 0, 0)).keeps hx
    (clearBelow_keeps (acc := (s, 0, 0)) hd (by simp [hx]) fun hloop => lt_irrefl _ (hr.below hloop))

end Emptied

/-! ### The record with its terminals and its notice -/

theorem State.clearedOut_terms (s : State) (x : Nat) :
    (s.clearedOut x).terms = (((s.emptied x).offerHeld x).clearTerms x).1.terms :=
  State.terms_of_ties (State.offerClosed_ties ..)

theorem State.clearedOut_fault?_ne (s : State) {x y : Nat} (hyx : y ≠ x) :
    (s.clearedOut x).fault? y = (s.emptied x).fault? y := by
  rw [State.clearedOut, State.offerClosed_fault?, State.clearTerms_fault?, State.offerHeld_fault?_ne _ hyx]
  rfl

section Out

include hd hr

theorem State.clearedOut_wanes (x : Nat) : s.Wanes (s.clearedOut x) :=
  (((State.emptied_wanes hd hr x).trans (State.offerHeld_wanes ..)).trans (State.clearTerms_wanes ..)).trans
    (State.offerClosed_wanes ..)

theorem State.clearedOut_aside (x : Nat) : (s.clearedOut x).aside = s.aside := by
  have hterms : ∀ t : State, (t.clearTerms x).1.aside = t.aside := fun t => by
    rw [t.clearTerms_still x]
    rfl
  rw [State.clearedOut, State.offerClosed_aside, hterms, State.offerHeld_aside]
  exact State.emptied_aside hd hr x

include hx

/-- With a held notice cleared, FAULT_CLOSED with reason HOST is the one notice (R144). -/
theorem State.clearedOut_notices (hheld : f.held = false) : (s.clearedOut x).notices = (s.hostClosed x f).notices := by
  obtain ⟨g, hg, hsame⟩ := State.emptied_self hx hd hr
  have hgheld : g.held = false := by rw [hsame]; exact hheld
  have hout : s.clearedOut x = ((s.emptied x).clearTerms x).1.offerClosed x .host 0 0 :=
    congrArg (fun t => State.offerClosed (State.clearTerms t x).1 x .host 0 0) (State.offerHeld_of_clear hg hgheld)
  have hkept : ((s.emptied x).clearTerms x).1.kept = s.kept :=
    (State.clearTerms_kept ..).trans (State.emptied_wanes hd hr x).kept
  have hnotices : ((s.emptied x).clearTerms x).1.notices = s.notices := by
    rw [(s.emptied x).clearTerms_still x]
    exact State.emptied_notices hd hr x
  rw [hout, State.offerClosed_notices hkept hnotices ((State.clearTerms_fault? ..).trans hg), hsame]
  rfl

end Out

/-! ### FAULT_CLEAR as a whole -/

include hx

theorem State.clearFault_of_top (htop : f.parent = none) : (s.clearFault x).1 = (s.clearedOut x).removeFault x := by
  rw [State.clearFault_of_some hx, htop]

theorem State.clearFault_of_linked {p : Nat} (hp : f.parent = some p) : ∃ n, (s.clearFault x).1 =
    (progressFault (n + 1) p ((s.clearedOut x).dropChild p)).removeFault x := by
  rw [State.clearFault_of_some hx, hp]
  exact ⟨_, rfl⟩

theorem State.clearFault_gone : (s.clearFault x).1.fault? x = none := by
  cases hp : f.parent with
  | none => rw [State.clearFault_of_top hx hp, State.removeFault_fault?, if_pos rfl]
  | some p =>
    obtain ⟨n, hn⟩ := State.clearFault_of_linked hx hp
    rw [hn, State.removeFault_fault?, if_pos rfl]

theorem State.clearFault_terms : (s.clearFault x).1.terms = (s.clearedOut x).terms := by
  cases hp : f.parent with
  | none => rw [State.clearFault_of_top hx hp, State.removeFault_terms]
  | some p =>
    obtain ⟨n, hn⟩ := State.clearFault_of_linked hx hp
    rw [hn, State.removeFault_terms, progressFault_terms]
    rfl

theorem State.clearFault_tail_wanes : (s.clearedOut x).Wanes (s.clearFault x).1 := by
  cases hp : f.parent with
  | none =>
    rw [State.clearFault_of_top hx hp]
    exact State.removeFault_wanes ..
  | some p =>
    obtain ⟨n, hn⟩ := State.clearFault_of_linked hx hp
    rw [hn]
    exact ((State.modFault_wanes _ p (f := FaultRecord.orphaned) fun _ => rfl).trans (progressFault_wanes ..)).trans
      (State.removeFault_wanes ..)

theorem State.clearFault_counts : (s.clearFault x).2 =
    ((clearBelow (s.faults.length + 1) x (s, 0, 0)).2.1 + 1, (clearBelow (s.faults.length + 1) x (s, 0, 0)).2.2 +
      (((s.emptied x).offerHeld x).clearTerms x).2) := by
  simp only [State.clearFault, hx]
  cases f.parent <;> rfl

section Whole

include hd hr

theorem State.clearFault_wanes : s.Wanes (s.clearFault x).1 :=
  (State.clearedOut_wanes hd hr x).trans (State.clearFault_tail_wanes hx)

theorem State.clearFault_aside : (s.clearFault x).1.aside = s.aside := by
  cases hp : f.parent with
  | none =>
    rw [State.clearFault_of_top hx hp]
    exact (State.removeFault_aside ..).trans (State.clearedOut_aside hd hr x)
  | some p =>
    obtain ⟨n, hn⟩ := State.clearFault_of_linked hx hp
    rw [hn]
    rw [State.removeFault_aside, progressFault_aside, State.dropChild_aside, State.clearedOut_aside hd hr x]

theorem State.clearFault_below {y : Nat} (hy : s.Below y x) : (s.clearFault x).1.fault? y = none := by
  have hyx : y ≠ x := fun h => lt_irrefl _ (hr.below (h ▸ hy))
  have hout : (s.clearedOut x).fault? y = none := (s.clearedOut_fault?_ne hyx).trans (State.emptied_below hd hr hy)
  exact (State.clearFault_tail_wanes hx).fault?_none hout

/-- The records that go are the named one and those below it; the reply counts them and their terminals. -/
theorem State.clearFault_leaves (hterms : Table.distinct s.terms) : ∃ gone : List Nat, gone.Nodup ∧
    (∀ y, y ∈ gone ↔ y = x ∨ s.Below y x) ∧ (s.clearFault x).2.1 = gone.length ∧
    (s.clearFault x).2.2 = (Table.countWhere s.terms fun _ e => e.linkedTo gone) ∧
    ∀ a, (s.clearFault x).1.term? a = (s.term? a).map (Terminal.clearedOf gone) := by
  obtain ⟨gone, hgone, hmem⟩ := State.below_orderly hd hr x
  have hfresh : x ∉ gone := fun h => lt_irrefl _ (hr.below ((hmem x).mp h))
  have hnodup : (gone ++ [x]).Nodup :=
    List.nodup_append.mpr ⟨hgone.nodup, List.nodup_singleton x, fun a ha b hb hab => by
      rw [List.mem_singleton.mp hb] at hab
      exact hfresh (hab ▸ ha)⟩
  have hlast : clearAll (s, 0, 0) (gone ++ [x]) = clearOne (clearBelow (s.faults.length + 1) x (s, 0, 0)) x := by
    rw [clearAll_append, ← hgone.run]
    rfl
  have hheld : ((s.emptied x).offerHeld x).terms = (s.emptied x).terms := State.terms_of_ties (State.offerHeld_ties ..)
  have hemptied : Table.distinct (s.emptied x).terms := by
    rw [State.emptied, hgone.run, clearAll_terms hterms]
    exact Table.distinct_map hterms _
  refine ⟨gone ++ [x], hnodup, fun y => ?_, ?_, ?_, fun a => ?_⟩
  · rw [List.mem_append, List.mem_singleton, hmem, or_comm]
  · have hrecords := clearAll_records (s, 0, 0) (gone ++ [x])
    rw [hlast, Nat.zero_add] at hrecords
    rw [State.clearFault_counts hx, ← hrecords]
    rfl
  · have hterminals := clearAll_terminals (acc := (s, 0, 0)) hterms hnodup
    rw [hlast, Nat.zero_add] at hterminals
    rw [State.clearFault_counts hx, ← hterminals]
    simp only [clearOne, State.clearTerms_count, hheld]
    rfl
  · have hall := clearAll_terms (acc := (s, 0, 0)) (gone := gone ++ [x]) hterms
    rw [hlast, clearOne_terms hemptied] at hall
    have hout : (s.clearFault x).1.terms = s.terms.map fun e => (e.1, e.2.clearedOf (gone ++ [x])) := by
      rw [State.clearFault_terms hx, State.clearedOut_terms, State.clearTerms_terms (by rwa [hheld]), hheld]
      exact hall
    rw [State.term?, hout, Table.get?_map]
    rfl

/-- A record of the subtree that goes leaves its domain QUIET (R131). -/
theorem State.clearFault_quiet {y : Nat} {g : FaultRecord} (hy : y = x ∨ s.Below y x) (hg : s.fault? y = some g)
    (hon : g.kind.onDomain = true) (hw : s.windowOf g.subject = .decided y) :
    (s.clearFault x).1.windowOf g.subject = .quiet := by
  refine (State.clearFault_wanes hx hd hr).quiet hg ?_ hon hw
  rcases hy with rfl | hy
  · exact State.clearFault_gone hx
  · exact State.clearFault_below hx hd hr hy

/-! ### A top record -/

theorem State.clearFault_other_of_top (htop : f.parent = none) {y : Nat} (hyx : y ≠ x) (hy : ¬ s.Below y x) :
    (s.clearFault x).1.fault? y = s.fault? y := by
  rw [State.clearFault_of_top hx htop, State.removeFault_fault?, if_neg hyx, s.clearedOut_fault?_ne hyx,
    State.emptied_other hd hr hyx hy]

theorem State.clearFault_notices_of_top (htop : f.parent = none) (hheld : f.held = false) :
    (s.clearFault x).1.notices = (s.hostClosed x f).notices := by
  rw [State.clearFault_of_top hx htop, State.removeFault_notices, State.clearedOut_notices hx hd hr hheld]

/-- Only the windows of records that go change. -/
theorem State.clearFault_windowOf_of_top (htop : f.parent = none) {i : Nat}
    (hi : ∀ y, s.windowOf i = .decided y → y ≠ x ∧ ¬ s.Below y x) :
    (s.clearFault x).1.windowOf i = s.windowOf i := by
  rcases (State.clearFault_wanes hx hd hr).window i with hsame | ⟨-, y, k, hw, hname, hgone⟩
  · exact hsame
  · obtain ⟨hyx, hy⟩ := hi y hw
    rw [State.named, State.clearFault_other_of_top hx hd hr htop hyx hy, ← State.named, hname] at hgone
    cases hgone

/-! ### A record with a parent -/

section Parent

variable {p : Nat} {q : FaultRecord} (hp : f.parent = some p) (hq : s.fault? p = some q) (hkind : q.kind ≠ .unitLost)
include hp

omit hd in
theorem State.Ranked.parent_above : p ≠ x ∧ ¬ s.Below p x := by
  have hlt : rank p < rank x := hr x f p hx hp
  exact ⟨fun h => absurd hlt (h ▸ lt_irrefl _), fun h => lt_asymm hlt (hr.below h)⟩

include hq

theorem State.clearedOut_parent : (s.clearedOut x).fault? p = some q := by
  obtain ⟨hpx, hbelow⟩ := State.Ranked.parent_above hx hr hp
  rw [s.clearedOut_fault?_ne hpx, State.emptied_other hd hr hpx hbelow, hq]

include hkind

theorem State.clearFault_parent_stays (hmore : 0 < q.off ∨ 1 < q.children) : (s.clearFault x).1 =
    ((s.clearedOut x).modFault p fun f => (s.clearedOut x).progressed f.orphaned).removeFault x := by
  obtain ⟨n, hn⟩ := State.clearFault_of_linked hx hp
  rw [hn, State.orphan_stays n (State.clearedOut_parent hx hd hr hp hq) hkind hmore]

theorem State.clearFault_parent_gone (hoff : q.off = 0) (hchildren : q.children ≤ 1) :
    (s.clearFault x).1.fault? p = none := by
  obtain ⟨n, hn⟩ := State.clearFault_of_linked hx hp
  rw [hn]
  exact (State.removeFault_wanes ..).fault?_none
    (State.orphan_gone n (State.clearedOut_parent hx hd hr hp hq) hkind hoff hchildren)

theorem State.clearFault_parent_notices (hoff : q.off = 0) (hchildren : q.children ≤ 1) (htop : q.parent = none)
    (hheld : f.held = false) (hqheld : q.held = false) : (s.clearFault x).1.notices =
      ((s.hostClosed x f).offer .info (.faultClosed p q.kind (s.faultSubject q.kind q.subject) .cleared false q.openedAt
        q.affected 0 0 q.acked q.reminders)).notices := by
  have hkept : (s.clearedOut x).kept = (s.hostClosed x f).kept := (State.clearedOut_wanes hd hr x).kept
  obtain ⟨n, hn⟩ := State.clearFault_of_linked hx hp
  rw [hn, State.removeFault_notices,
    State.orphan_notices n (State.clearedOut_parent hx hd hr hp hq) hkind hoff hchildren htop hqheld,
    State.faultSubject_of_kept (State.clearedOut_wanes hd hr x).kept,
    State.offer_notices_of_kept hkept (State.clearedOut_notices hx hd hr hheld)]

end Parent

end Whole

end Clear

/-! ## FAULT_CLEAR as a request (R144, R174) -/

theorem State.withFault_of_zero {s : State} {x : Nat} (hx : x = 0) (run : FaultRecord → State × Reply) :
    s.withFault x run = (s, .fail .outOfRange) := if_pos (.inl hx)

theorem State.withFault_of_none {s : State} {x : Nat} (hpos : x ≠ 0) (hle : x ≤ 65535) (hx : s.fault? x = none)
    (run : FaultRecord → State × Reply) : s.withFault x run = (s, .fail .notFound) := by
  rw [State.withFault, if_neg (by omega), hx]

theorem State.withFault_of_some {s : State} {x : Nat} (hpos : x ≠ 0) (hle : x ≤ 65535) {f : FaultRecord}
    (hx : s.fault? x = some f) (run : FaultRecord → State × Reply) : s.withFault x run = run f := by
  rw [State.withFault, if_neg (by omega), hx]

theorem State.take_faultClear {s : State} (h : s.halted = false) (i : Word16) :
    s.counted.take (.faultClear i) = answered (s.counted.faultClear i.toNat) :=
  State.take_of_gate (State.gate_of_free h rfl rfl rfl)

/-- The state and reply of a FAULT_CLEAR that finds its record. -/
theorem State.request_faultClear {s : State} {i : Word16} {f : FaultRecord} (tag : Byte) (hl : s.Listens)
    (hrun : s.halted = false) (hpos : i.toNat ≠ 0) (hx : s.fault? i.toNat = some f) :
    (s.request tag (.faultClear i)).Replied tag (.faultClear i)
        (.ok (.faultCleared (s.counted.clearFault i.toNat).2.1 (s.counted.clearFault i.toNat).2.2)) ∧
      (s.request tag (.faultClear i)).still = (s.counted.clearFault i.toNat).1.still := by
  have hle : i.toNat ≤ 65535 := Nat.le_of_lt_succ i.isLt
  have hlink : (s.counted.clearFault i.toNat).1.link = s.counted.link :=
    State.link_of_kept (s.counted.clearFault_kept i.toNat)
  refine s.request_answered tag (.faultClear i) hl ((State.take_faultClear hrun i).trans ?_)
    ((congrArg HostLink.buffer hlink :).trans s.counted_buffer)
  rw [State.faultClear, State.withFault_of_some hpos hle ((s.counted_fault? i.toNat).trans hx)]
  rfl

/-- Settles O32: the subtree as a removal of records one after the other, then the named record with its notice, then
what its parent is left with. -/
theorem faultClearRemoves : Obligations.FaultClearRemoves := by
  intro tag i s hl hrun
  have hle : i.toNat ≤ 65535 := Nat.le_of_lt_succ i.isLt
  refine ⟨fun hzero => ?zero, fun hpos hnone => ?missing, fun f rank hpos hx hterms hd hr => ?found⟩
  case zero =>
    exact completes_of_take rfl hl ((State.take_faultClear hrun i).trans
      (congrArg answered (State.withFault_of_zero hzero _))) rfl
  case missing =>
    exact completes_of_take rfl hl ((State.take_faultClear hrun i).trans
      (congrArg answered (State.withFault_of_none (s := s.counted) hpos hle hnone _))) rfl
  case found =>
    obtain ⟨hreplied, hstill⟩ := State.request_faultClear tag hl hrun hpos hx
    have hxc : s.counted.fault? i.toNat = some f := hx
    have hrc : s.counted.Ranked rank := hr
    have hdc : Table.distinct s.counted.faults := hd
    have hwanes := State.clearFault_wanes hxc hdc hrc
    have haside := State.clearFault_aside hxc hdc hrc
    obtain ⟨gone, hnodup, hmem, hrecords, hterminals, hterm⟩ := State.clearFault_leaves hxc hdc hrc hterms
    refine ⟨_, s.hostClosed i.toNat f, _, _, rfl, hreplied, rfl, ?_⟩
    have hties := State.ties_of_still hstill
    generalize s.request tag (.faultClear i) = t at hreplied hstill hties
    have hfault : ∀ y, t.fault? y = (s.counted.clearFault i.toNat).1.fault? y := fun y =>
      congrArg (Table.get? · y) (State.faults_of_still hstill)
    have hwindow := State.windowOf_of_ties hties
    have hnotices := State.notices_of_still hstill
    have hsettings := (State.settings_of_still hstill).trans (State.settings_of_kept hwanes.kept)
    have hlatch := (State.latch_of_still hstill).trans (State.latch_of_kept hwanes.kept)
    have hstore := (State.store_of_still hstill).trans (State.store_of_kept hwanes.kept)
    have hunits := (State.units_of_still hstill).trans (State.units_of_aside haside)
    have hlearned := (State.learned_of_still hstill).trans (State.learned_of_aside haside)
    have hdomains : t.domains = (s.counted.clearFault i.toNat).1.domains := State.domains_of_still hstill
    refine ⟨(hfault _).trans (State.clearFault_gone hxc), fun y hy => ?below, ⟨gone, hnodup, hmem, hrecords, hterminals,
      fun a e ha => ?terms⟩, fun y g hy hg hon hw => ?quiet, fun htop => ⟨fun y hyx hy => ?others, fun d hd' => ?windows,
      fun hheld => ?notices⟩, fun p q hp hq hkind => ⟨fun hmore => ?stays, fun hoff hchildren => ?parentGone⟩,
      hsettings, hlatch, hstore, hunits, hlearned, ?fields⟩
    case below => exact (hfault y).trans (State.clearFault_below hxc hdc hrc hy)
    case terms =>
      have hafter : t.term? a = some (e.clearedOf gone) := by
        rw [State.term?_of_ties hties, hterm, State.counted_term?, ha, Option.map_some]
      cases hlinked : e.linkedTo gone with
      | true =>
        rw [Terminal.clearedOf, if_pos hlinked] at hafter
        exact ⟨_, hafter, rfl, rfl, rfl, rfl, rfl, fun _ => ⟨rfl, rfl⟩,
          fun hno => Bool.noConfusion (hlinked.symm.trans hno)⟩
      | false =>
        rw [Terminal.clearedOf, if_neg (by simp [hlinked])] at hafter
        exact ⟨e, hafter, rfl, rfl, rfl, rfl, rfl, fun hyes => Bool.noConfusion (hlinked.symm.trans hyes),
          fun _ => rfl⟩
    case quiet => exact (hwindow _).trans (State.clearFault_quiet hxc hdc hrc hy hg hon hw)
    case others => exact (hfault y).trans (State.clearFault_other_of_top hxc hdc hrc htop hyx hy)
    case windows => exact (hwindow d).trans (State.clearFault_windowOf_of_top hxc hdc hrc htop hd')
    case notices =>
      rw [hnotices, State.clearFault_notices_of_top hxc hdc hrc htop hheld]
      rfl
    case stays =>
      obtain ⟨hpx, -⟩ := State.Ranked.parent_above hxc hrc hp
      have hstays := State.clearFault_parent_stays hxc hdc hrc hp hq hkind hmore
      refine ⟨?_, fun y hyx hyp hy => ?_, fun hheld => ?_⟩
      · rw [hfault, hstays, State.removeFault_fault?, if_neg hpx, State.modFault_fault?, if_pos rfl,
          State.clearedOut_parent hxc hdc hrc hp hq, Option.map_some,
          State.progressed_of_kept (State.clearedOut_wanes hdc hrc _).kept]
        rfl
      · rw [hfault, hstays, State.removeFault_fault?, if_neg hyx, State.modFault_fault?, if_neg hyp,
          State.clearedOut_fault?_ne _ hyx, State.emptied_other hdc hrc hyx hy]
        rfl
      · rw [hnotices, hstays, State.removeFault_notices, State.modFault_notices,
          State.clearedOut_notices hxc hdc hrc hheld]
        rfl
    case parentGone =>
      have hgone := State.clearFault_parent_gone hxc hdc hrc hp hq hkind hoff hchildren
      refine ⟨(hfault p).trans hgone, fun hon hw => (hwindow _).trans (hwanes.quiet hq hgone hon hw),
        fun hqtop hheld hqheld => ?_⟩
      rw [hnotices, State.clearFault_parent_notices hxc hdc hrc hp hq hkind hoff hchildren hqtop hheld hqheld]
      rfl
    case fields =>
      rw [hdomains]
      exact (State.domainFields_of_kept hwanes.kept :)

end Sys2Proof.Machine
